-- ==== Sys2Proof/Word.lean ====
section
/-! DEFINITION. The words of the block: 32-bit bit vectors, bit 0 least significant (R10, R11, R80). -/

namespace Sys2Proof

/-- Every register, cause code, program counter and bus datum (R11). -/
abbrev Word := BitVec 32

/-- The 32 slots of a trap's register snapshot (R17, R23). -/
abbrev Snapshot := Vector Word 32

/-- An opaque handler identity (R33). `H_default` is none of these: it is `Callback.defaultHandler` (log 14). -/
abbrev HandlerId := Word

end Sys2Proof
end

