-- ==== Sys2Proof/Config.lean ====
section
/-! DEFINITION. What an implementation fixes (the parameters of R9) and the free values the spec leaves open. -/

namespace Sys2Proof

/-- Direction of priority arbitration (R9, R125). -/
inductive PrioOrder where
  | higherWins
  | lowerWins
deriving DecidableEq, Repr

/-- The implementation parameters of R9. State holds one value of this type, which no step changes (log 1),
so a claim about every state is a claim about every choice of parameters. -/
structure Params where
  /-- `PIC_BASE`, a byte address (R9, R63). -/
  picBase : Word
  /-- `TIMER_BASE`, a byte address (R9, R63). -/
  timerBase : Word
  /-- `STATUS_MIE_BIT`, one of 5..31 (R9, R25). -/
  mieBit : Fin 32
  /-- `PRIO_ORDER` (R9, R125). -/
  prioOrder : PrioOrder
  /-- `RET_REG`, the snapshot slot that receives the syscall result (R9, R225). -/
  retReg : Fin 32
  /-- `PRESCALE_DIV(sel)` for sel = 0..7 (R9, R184). -/
  prescaleDiv : Vector Nat 8
deriving DecidableEq, Repr

namespace Config

/-- Bytes of the PIC region: 36 words (R60). -/
def picSize : Nat := 0x90

/-- Bytes of the timer region: 7 words (R60). -/
def timerSize : Nat := 0x1C

/-- R63: both bases are multiples of 4, the regions do not wrap past 0xFFFFFFFF and are disjoint. -/
def basesLegal (pic timer : Word) : Bool :=
  pic.toNat % 4 == 0 && timer.toNat % 4 == 0
    && decide (pic.toNat + picSize ≤ 2 ^ 32) && decide (timer.toNat + timerSize ≤ 2 ^ 32)
    && (decide (pic.toNat + picSize ≤ timer.toNat) || decide (timer.toNat + timerSize ≤ pic.toNat))

/-- The base addresses are OPEN (D2): a free pair of words (log 2). -/
opaque rawBases : Word × Word

/-- The free pair, confined to the pairs R63 admits: every legal pair is a possible value, and an illegal
draw stands for one fixed legal pair (log 2). -/
def bases : Word × Word :=
  if basesLegal rawBases.1 rawBases.2 then rawBases else (0#32, 0x1000#32)

/-- R9's parameters at the spec's defaults, with the OPEN bases left free. -/
def defaultParams : Params where
  picBase := bases.1
  timerBase := bases.2
  mieBit := 31
  prioOrder := .higherWins
  retReg := 10
  prescaleDiv := #v[1, 2, 4, 8, 16, 32, 64, 128]

/-- The result of the excluded syscall handler body on its `n`-th call with this snapshot: a free value
(R225, D22, I11; log 13). -/
opaque syscallOracle : Nat → Snapshot → Word

end Config

/-- The values R9 admits: the bases of R63, a master-enable bit outside the LINE field, and ratios of at least
one tick per count (R46 counts `psc_cnt` from 0 to `PRESCALE_DIV - 1`; log 22). -/
def Params.legal (p : Params) : Bool :=
  Config.basesLegal p.picBase p.timerBase && decide (5 ≤ p.mieBit.val) && p.prescaleDiv.toList.all (1 ≤ ·)

end Sys2Proof
end

