-- ==== Sys2Proof/Syntax.lean ====
section
/-! DEFINITION. The operations of the block: one constructor per row of spec/opcode_table.json (R83, R84, R82),
the registers they name (R61, R62) and the requests that carry them (R14, R80, R83, R84, R220). -/

namespace Sys2Proof

/-- The 43 registers of the two blocks (R61, R62). -/
inductive BusReg where
  | status | enable | pending | ack
  | prio (n : Fin 32)
  | tCtrl | tCount | tReload | tMatch | tIen | tIpend | tIack
deriving DecidableEq, Repr

/-- One constructor per row of the opcode table. `rd`/`wr` rows are BUSREQ (a write's data `v` is on the bus port,
R83), `pic`/`tmr`/`ev` rows are HOSTOP (R84), `trap` rows are CAUSE (R82: `code` is bits 30:0 of the cause word). -/
inductive Instr where
  | rdPicStatus
  | wrPicStatus (v : Word)
  | rdPicEnable
  | wrPicEnable (v : Word)
  | rdPicPending
  | wrPicPending (v : Word)
  | rdPicAck
  | wrPicAck (v : Word)
  | rdPicPrio0
  | wrPicPrio0 (v : Word)
  | rdPicPrio1
  | wrPicPrio1 (v : Word)
  | rdPicPrio2
  | wrPicPrio2 (v : Word)
  | rdPicPrio3
  | wrPicPrio3 (v : Word)
  | rdPicPrio4
  | wrPicPrio4 (v : Word)
  | rdPicPrio5
  | wrPicPrio5 (v : Word)
  | rdPicPrio6
  | wrPicPrio6 (v : Word)
  | rdPicPrio7
  | wrPicPrio7 (v : Word)
  | rdPicPrio8
  | wrPicPrio8 (v : Word)
  | rdPicPrio9
  | wrPicPrio9 (v : Word)
  | rdPicPrio10
  | wrPicPrio10 (v : Word)
  | rdPicPrio11
  | wrPicPrio11 (v : Word)
  | rdPicPrio12
  | wrPicPrio12 (v : Word)
  | rdPicPrio13
  | wrPicPrio13 (v : Word)
  | rdPicPrio14
  | wrPicPrio14 (v : Word)
  | rdPicPrio15
  | wrPicPrio15 (v : Word)
  | rdPicPrio16
  | wrPicPrio16 (v : Word)
  | rdPicPrio17
  | wrPicPrio17 (v : Word)
  | rdPicPrio18
  | wrPicPrio18 (v : Word)
  | rdPicPrio19
  | wrPicPrio19 (v : Word)
  | rdPicPrio20
  | wrPicPrio20 (v : Word)
  | rdPicPrio21
  | wrPicPrio21 (v : Word)
  | rdPicPrio22
  | wrPicPrio22 (v : Word)
  | rdPicPrio23
  | wrPicPrio23 (v : Word)
  | rdPicPrio24
  | wrPicPrio24 (v : Word)
  | rdPicPrio25
  | wrPicPrio25 (v : Word)
  | rdPicPrio26
  | wrPicPrio26 (v : Word)
  | rdPicPrio27
  | wrPicPrio27 (v : Word)
  | rdPicPrio28
  | wrPicPrio28 (v : Word)
  | rdPicPrio29
  | wrPicPrio29 (v : Word)
  | rdPicPrio30
  | wrPicPrio30 (v : Word)
  | rdPicPrio31
  | wrPicPrio31 (v : Word)
  | rdTmrCtrl
  | wrTmrCtrl (v : Word)
  | rdTmrCount
  | wrTmrCount (v : Word)
  | rdTmrReload
  | wrTmrReload (v : Word)
  | rdTmrMatch
  | wrTmrMatch (v : Word)
  | rdTmrIen
  | wrTmrIen (v : Word)
  | rdTmrIpend
  | wrTmrIpend (v : Word)
  | rdTmrIack
  | wrTmrIack (v : Word)
  | picInit
  | picRegisterHandler (line : Word) (h : HandlerId)
  | picMasterEnable
  | picMasterDisable
  | picEnableInterrupt (line : Word)
  | picDisableInterrupt (line : Word)
  | picSetPriority (line : Word) (priority : Word)
  | picDispatch
  | tmrSetPrescaler (value : Word)
  | tmrEnableAutoreload
  | tmrDisableAutoreload
  | tmrEnablePrescaler
  | tmrDisablePrescaler
  | tmrEnableInterrupts
  | tmrDisableInterrupts
  | tmrStart
  | tmrStop
  | tmrSetCounter (value : Word)
  | tmrSetReload (value : Word)
  | tmrSetMatch (value : Word)
  | tmrEnableIndividualInterrupts (mask : Word)
  | tmrGetInterruptsPending
  | tmrAcknowledgeInterrupts (mask : Word)
  | evLine (n : Word) (level : Bool)
  | evTick
  | trapExtIrq (epc : Word) (regs : Snapshot)
  | trapEcallM (epc : Word) (regs : Snapshot)
  | trapHaltIrq (code : BitVec 31) (epc : Word) (regs : Snapshot)
  | trapHaltExc (code : BitVec 31) (epc : Word) (regs : Snapshot)
deriving DecidableEq, Repr

/-- One transaction as the bus port carries it (R14): byte address, direction, size in bytes, write data. -/
structure BusAccess where
  addr : Word
  write : Bool
  size : Nat
  data : Word
deriving DecidableEq, Repr

/-- A request before it is decoded. Words are given first word first: the code word, then the operand words (log 9). -/
inductive Request where
  /-- A BUSREQ descriptor (R83), then the write data. -/
  | busreq (words : List Word)
  /-- A transaction at an absolute address, of any size (R14, R65 to R67). -/
  | bus (t : BusAccess)
  /-- A HOSTOP id (R84), then its operands. -/
  | op (words : List Word)
  /-- A cause word (R81), then `epc`, then the 32 snapshot words (R17, R220). -/
  | trap (words : List Word)
deriving DecidableEq, Repr

end Sys2Proof
end

