-- ==== Sys2Proof/WellFormed.lean ====
section
/-! DEFINITION. Which operands an operation may carry: everything the types do not already fix. -/

namespace Sys2Proof

/-- R120 admits `ev.line` on lines 1..31 only; R82 gives the class `HaltIrq` every interrupt code but 15, and the
class `HaltExc` every exception cause but 11. Every other operation is well formed with any operands. -/
def Instr.wellFormed : Instr → Bool
  | .evLine n _ => decide (1 ≤ n.toNat) && decide (n.toNat ≤ 31)
  | .trapHaltIrq code _ _ => code != 15#31
  | .trapHaltExc code _ _ => code != 11#31
  | _ => true

/-- The well-formed operations, as a proposition. -/
abbrev Instr.WF (i : Instr) : Prop := i.wellFormed = true

end Sys2Proof
end

