-- ==== Sys2Proof/Decode.lean ====
section
/-! DEFINITION. The decoder of requests (R82 to R84, R93 to R95), total on any words, and after it the encoder. -/

namespace Sys2Proof

/-- The faults an access to the block can raise before it reaches a register (R65 to R67). -/
inductive AccessFault where
  | unmapped | badWidth | misaligned
deriving DecidableEq, Repr

/-- Why a request is no operation. `access` is a fault of the spec (R95 a, b); the others are outside the model's
operations (R95 d) or no request of the forms of log 9. -/
inductive Reject where
  /-- The access faults: R65, R66, R67. -/
  | access (k : AccessFault)
  /-- A HOSTOP id with no row (R95 d). -/
  | unknownOp (id : Word)
  /-- A BUSREQ word with a bit above bit 9 set (R83 gives the descriptor 10 bits). -/
  | strayBits (w : Word)
  /-- An operand word is missing. -/
  | missingWord
  /-- A word stands after the last operand. -/
  | trailingWord
  /-- The level of `ev.line` is neither 0 nor 1 (R120). -/
  | badLevel (w : Word)
deriving DecidableEq, Repr

/-- The 10-bit descriptor of R83: WE in bit 9, BLK in bit 8, OFF in bits 7:0. -/
def busCode (write timer : Bool) (off : Nat) : Nat :=
  write.toNat * 512 + timer.toNat * 256 + off

/-- The read rows of the table (R93, R94): descriptor and operation. -/
def busReadRows : List (Nat × Instr) :=
  [(0x000, .rdPicStatus), (0x004, .rdPicEnable), (0x008, .rdPicPending), (0x00C, .rdPicAck),
   (0x010, .rdPicPrio0), (0x014, .rdPicPrio1), (0x018, .rdPicPrio2), (0x01C, .rdPicPrio3),
   (0x020, .rdPicPrio4), (0x024, .rdPicPrio5), (0x028, .rdPicPrio6)] ++
  [(0x02C, .rdPicPrio7), (0x030, .rdPicPrio8), (0x034, .rdPicPrio9), (0x038, .rdPicPrio10),
   (0x03C, .rdPicPrio11), (0x040, .rdPicPrio12), (0x044, .rdPicPrio13), (0x048, .rdPicPrio14),
   (0x04C, .rdPicPrio15), (0x050, .rdPicPrio16), (0x054, .rdPicPrio17)] ++
  [(0x058, .rdPicPrio18), (0x05C, .rdPicPrio19), (0x060, .rdPicPrio20), (0x064, .rdPicPrio21),
   (0x068, .rdPicPrio22), (0x06C, .rdPicPrio23), (0x070, .rdPicPrio24), (0x074, .rdPicPrio25),
   (0x078, .rdPicPrio26), (0x07C, .rdPicPrio27), (0x080, .rdPicPrio28)] ++
  [(0x084, .rdPicPrio29), (0x088, .rdPicPrio30), (0x08C, .rdPicPrio31), (0x100, .rdTmrCtrl),
   (0x104, .rdTmrCount), (0x108, .rdTmrReload), (0x10C, .rdTmrMatch), (0x110, .rdTmrIen),
   (0x114, .rdTmrIpend), (0x118, .rdTmrIack)]

/-- The write rows of the table (R93, R94): descriptor and operation, which takes the write data. -/
def busWriteRows : List (Nat × (Word → Instr)) :=
  [(0x200, .wrPicStatus), (0x204, .wrPicEnable), (0x208, .wrPicPending), (0x20C, .wrPicAck),
   (0x210, .wrPicPrio0), (0x214, .wrPicPrio1), (0x218, .wrPicPrio2), (0x21C, .wrPicPrio3),
   (0x220, .wrPicPrio4), (0x224, .wrPicPrio5), (0x228, .wrPicPrio6)] ++
  [(0x22C, .wrPicPrio7), (0x230, .wrPicPrio8), (0x234, .wrPicPrio9), (0x238, .wrPicPrio10),
   (0x23C, .wrPicPrio11), (0x240, .wrPicPrio12), (0x244, .wrPicPrio13), (0x248, .wrPicPrio14),
   (0x24C, .wrPicPrio15), (0x250, .wrPicPrio16), (0x254, .wrPicPrio17)] ++
  [(0x258, .wrPicPrio18), (0x25C, .wrPicPrio19), (0x260, .wrPicPrio20), (0x264, .wrPicPrio21),
   (0x268, .wrPicPrio22), (0x26C, .wrPicPrio23), (0x270, .wrPicPrio24), (0x274, .wrPicPrio25),
   (0x278, .wrPicPrio26), (0x27C, .wrPicPrio27), (0x280, .wrPicPrio28)] ++
  [(0x284, .wrPicPrio29), (0x288, .wrPicPrio30), (0x28C, .wrPicPrio31), (0x300, .wrTmrCtrl),
   (0x304, .wrTmrCount), (0x308, .wrTmrReload), (0x30C, .wrTmrMatch), (0x310, .wrTmrIen),
   (0x314, .wrTmrIpend), (0x318, .wrTmrIack)]

/-- R95 (a): the fault of a descriptor with no row. An offset outside the block's region is `Unmapped`; inside it, the
only offsets without a register are the unaligned ones (R67; log 11, 12). -/
def noRowFault (code : Nat) : AccessFault :=
  if (if code / 256 % 2 = 0 then Config.picSize else Config.timerSize) ≤ code % 256 then .unmapped else .misaligned

/-- A descriptor and the words after it: the operation and the words it does not use. -/
def decodeDescriptor (code : Nat) (data : List Word) : Except Reject (Instr × List Word) :=
  match busReadRows.lookup code with
  | some i => .ok (i, data)
  | none =>
    match busWriteRows.lookup code with
    | none => .error (.access (noRowFault code))
    | some f =>
      match data with
      | [] => .error .missingWord
      | v :: rest => .ok (f v, rest)

/-- A BUSREQ request (R83). -/
def decodeBusWords : List Word → Except Reject (Instr × List Word)
  | [] => .error .missingWord
  | w :: data => if 1024 ≤ w.toNat then .error (.strayBits w) else decodeDescriptor w.toNat data

/-- The words after a HOSTOP id: the operation they complete and the words it does not use. -/
abbrev OperandReader := List Word → Except Reject (Instr × List Word)

/-- No operand. -/
def noOperand (i : Instr) : OperandReader := fun ws => .ok (i, ws)

/-- One operand word. -/
def oneOperand (f : Word → Instr) : OperandReader
  | a :: ws => .ok (f a, ws)
  | [] => .error .missingWord

/-- Two operand words, in the order R96 writes them. -/
def twoOperands (f : Word → Word → Instr) : OperandReader
  | a :: b :: ws => .ok (f a b, ws)
  | _ => .error .missingWord

/-- `ev.line n, b`: the level is 0 or 1 (R96, R120). -/
def lineOperands : OperandReader
  | n :: b :: ws =>
    if b = 0#32 then .ok (.evLine n false, ws) else if b = 1#32 then .ok (.evLine n true, ws) else .error (.badLevel b)
  | _ => .error .missingWord

/-- The HOSTOP rows of the table (R84). -/
def opRows : List (Nat × OperandReader) :=
  [(0x01, noOperand .picInit),
   (0x02, twoOperands .picRegisterHandler),
   (0x03, noOperand .picMasterEnable),
   (0x04, noOperand .picMasterDisable),
   (0x05, oneOperand .picEnableInterrupt),
   (0x06, oneOperand .picDisableInterrupt),
   (0x07, twoOperands .picSetPriority),
   (0x08, noOperand .picDispatch),
   (0x20, oneOperand .tmrSetPrescaler)] ++
  [(0x21, noOperand .tmrEnableAutoreload),
   (0x22, noOperand .tmrDisableAutoreload),
   (0x23, noOperand .tmrEnablePrescaler),
   (0x24, noOperand .tmrDisablePrescaler),
   (0x25, noOperand .tmrEnableInterrupts),
   (0x26, noOperand .tmrDisableInterrupts),
   (0x27, noOperand .tmrStart),
   (0x28, noOperand .tmrStop),
   (0x29, oneOperand .tmrSetCounter)] ++
  [(0x2A, oneOperand .tmrSetReload),
   (0x2B, oneOperand .tmrSetMatch),
   (0x2C, oneOperand .tmrEnableIndividualInterrupts),
   (0x2D, noOperand .tmrGetInterruptsPending),
   (0x2E, oneOperand .tmrAcknowledgeInterrupts),
   (0x60, lineOperands),
   (0x61, noOperand .evTick)]

/-- A HOSTOP request (R84): the 8-bit id, then the operands. -/
def decodeOpWords : List Word → Except Reject (Instr × List Word)
  | [] => .error .missingWord
  | w :: operands =>
    match opRows.lookup w.toNat with
    | some r => r operands
    | none => .error (.unknownOp w)

/-- The first 32 words as a snapshot (R17), and the words after them. -/
def readSnapshot (ws : List Word) : Except Reject (Snapshot × List Word) :=
  if h : 32 ≤ ws.length then .ok (⟨(ws.take 32).toArray, by simp [h]⟩, ws.drop 32) else .error .missingWord

/-- The cause word of an asynchronous interrupt with this source code (R81). -/
def irqCause (code : BitVec 31) : Word := 1#1 ++ code

/-- The cause word of a synchronous exception (R81). -/
def excCause (code : BitVec 31) : Word := 0#1 ++ code

/-- The cause word of an external interrupt (R82). -/
def extIrqCause : Word := 0x8000000F#32

/-- The cause word of an environment call from machine mode (R82). -/
def ecallMCause : Word := 0x0000000B#32

/-- R82: the class of a cause word, the two exact matches first. -/
def trapOf (cause epc : Word) (regs : Snapshot) : Instr :=
  if cause = extIrqCause then .trapExtIrq epc regs
  else if cause = ecallMCause then .trapEcallM epc regs
  else if cause.getLsbD 31 then .trapHaltIrq (cause.setWidth 31) epc regs
  else .trapHaltExc (cause.setWidth 31) epc regs

/-- A trap request: cause, epc, snapshot (R17, R220). -/
def decodeTrapWords : List Word → Except Reject (Instr × List Word)
  | cause :: epc :: ws => (readSnapshot ws).map fun r => (trapOf cause epc r.1, r.2)
  | _ => .error .missingWord

/-- Where an address lies: the block (true for the timer) and the offset in it; `none` outside both regions (R60, R67). -/
def locate (p : Params) (addr : Word) : Option (Bool × Nat) :=
  let a := addr.toNat
  if p.picBase.toNat ≤ a ∧ a < p.picBase.toNat + Config.picSize then some (false, a - p.picBase.toNat)
  else if p.timerBase.toNat ≤ a ∧ a < p.timerBase.toNat + Config.timerSize then some (true, a - p.timerBase.toNat)
  else none

/-- A transaction at an absolute address. R67: one fault, the first of `Unmapped`, `BadWidth`, `Misaligned`. -/
def decodeAccess (p : Params) (t : BusAccess) : Except Reject Instr :=
  match locate p t.addr with
  | none => .error (.access .unmapped)
  | some (timer, off) =>
    if t.size ≠ 4 then .error (.access .badWidth)
    else if t.addr.toNat % 4 ≠ 0 then .error (.access .misaligned)
    else (decodeDescriptor (busCode t.write timer off) [t.data]).map (·.1)

/-- A request of words must use all of its words. -/
def wholeRequest : Except Reject (Instr × List Word) → Except Reject Instr
  | .ok (i, []) => .ok i
  | .ok (_, _ :: _) => .error .trailingWord
  | .error r => .error r

/-- The decoder: total on every request. Only a transaction at an absolute address looks at the parameters. -/
def decode (p : Params) : Request → Except Reject Instr
  | .busreq ws => wholeRequest (decodeBusWords ws)
  | .bus t => decodeAccess p t
  | .op ws => wholeRequest (decodeOpWords ws)
  | .trap ws => wholeRequest (decodeTrapWords ws)

/-! ### The encoder, written from R61, R62, R83, R84, R81 -/

/-- Whether a register is the timer's (BLK of R83). -/
def BusReg.inTimer : BusReg → Bool
  | .status | .enable | .pending | .ack | .prio _ => false
  | .tCtrl | .tCount | .tReload | .tMatch | .tIen | .tIpend | .tIack => true

/-- The byte offset of a register in its block (R61, R62). -/
def BusReg.offset : BusReg → Nat
  | .status => 0x00
  | .enable => 0x04
  | .pending => 0x08
  | .ack => 0x0C
  | .prio n => 0x10 + 4 * n.val
  | .tCtrl => 0x00
  | .tCount => 0x04
  | .tReload => 0x08
  | .tMatch => 0x0C
  | .tIen => 0x10
  | .tIpend => 0x14
  | .tIack => 0x18

/-- The absolute byte address of a register (R60, R83). -/
def BusReg.address (p : Params) (r : BusReg) : Word :=
  (if r.inTimer then p.timerBase else p.picBase) + BitVec.ofNat 32 r.offset

/-- A read of `r` (R83, WE = 0). -/
def encodeRead (r : BusReg) : Request :=
  .busreq [BitVec.ofNat 32 (busCode false r.inTimer r.offset)]

/-- A write of `v` to `r` (R83, WE = 1). -/
def encodeWrite (r : BusReg) (v : Word) : Request :=
  .busreq [BitVec.ofNat 32 (busCode true r.inTimer r.offset), v]

/-- A trap's words: cause, epc, snapshot. -/
def encodeTrap (cause epc : Word) (regs : Snapshot) : Request :=
  .trap (cause :: epc :: regs.toList)

/-- The request of an operation. -/
def encode : Instr → Request
  | .rdPicStatus => encodeRead .status
  | .wrPicStatus v => encodeWrite .status v
  | .rdPicEnable => encodeRead .enable
  | .wrPicEnable v => encodeWrite .enable v
  | .rdPicPending => encodeRead .pending
  | .wrPicPending v => encodeWrite .pending v
  | .rdPicAck => encodeRead .ack
  | .wrPicAck v => encodeWrite .ack v
  | .rdPicPrio0 => encodeRead (.prio 0)
  | .wrPicPrio0 v => encodeWrite (.prio 0) v
  | .rdPicPrio1 => encodeRead (.prio 1)
  | .wrPicPrio1 v => encodeWrite (.prio 1) v
  | .rdPicPrio2 => encodeRead (.prio 2)
  | .wrPicPrio2 v => encodeWrite (.prio 2) v
  | .rdPicPrio3 => encodeRead (.prio 3)
  | .wrPicPrio3 v => encodeWrite (.prio 3) v
  | .rdPicPrio4 => encodeRead (.prio 4)
  | .wrPicPrio4 v => encodeWrite (.prio 4) v
  | .rdPicPrio5 => encodeRead (.prio 5)
  | .wrPicPrio5 v => encodeWrite (.prio 5) v
  | .rdPicPrio6 => encodeRead (.prio 6)
  | .wrPicPrio6 v => encodeWrite (.prio 6) v
  | .rdPicPrio7 => encodeRead (.prio 7)
  | .wrPicPrio7 v => encodeWrite (.prio 7) v
  | .rdPicPrio8 => encodeRead (.prio 8)
  | .wrPicPrio8 v => encodeWrite (.prio 8) v
  | .rdPicPrio9 => encodeRead (.prio 9)
  | .wrPicPrio9 v => encodeWrite (.prio 9) v
  | .rdPicPrio10 => encodeRead (.prio 10)
  | .wrPicPrio10 v => encodeWrite (.prio 10) v
  | .rdPicPrio11 => encodeRead (.prio 11)
  | .wrPicPrio11 v => encodeWrite (.prio 11) v
  | .rdPicPrio12 => encodeRead (.prio 12)
  | .wrPicPrio12 v => encodeWrite (.prio 12) v
  | .rdPicPrio13 => encodeRead (.prio 13)
  | .wrPicPrio13 v => encodeWrite (.prio 13) v
  | .rdPicPrio14 => encodeRead (.prio 14)
  | .wrPicPrio14 v => encodeWrite (.prio 14) v
  | .rdPicPrio15 => encodeRead (.prio 15)
  | .wrPicPrio15 v => encodeWrite (.prio 15) v
  | .rdPicPrio16 => encodeRead (.prio 16)
  | .wrPicPrio16 v => encodeWrite (.prio 16) v
  | .rdPicPrio17 => encodeRead (.prio 17)
  | .wrPicPrio17 v => encodeWrite (.prio 17) v
  | .rdPicPrio18 => encodeRead (.prio 18)
  | .wrPicPrio18 v => encodeWrite (.prio 18) v
  | .rdPicPrio19 => encodeRead (.prio 19)
  | .wrPicPrio19 v => encodeWrite (.prio 19) v
  | .rdPicPrio20 => encodeRead (.prio 20)
  | .wrPicPrio20 v => encodeWrite (.prio 20) v
  | .rdPicPrio21 => encodeRead (.prio 21)
  | .wrPicPrio21 v => encodeWrite (.prio 21) v
  | .rdPicPrio22 => encodeRead (.prio 22)
  | .wrPicPrio22 v => encodeWrite (.prio 22) v
  | .rdPicPrio23 => encodeRead (.prio 23)
  | .wrPicPrio23 v => encodeWrite (.prio 23) v
  | .rdPicPrio24 => encodeRead (.prio 24)
  | .wrPicPrio24 v => encodeWrite (.prio 24) v
  | .rdPicPrio25 => encodeRead (.prio 25)
  | .wrPicPrio25 v => encodeWrite (.prio 25) v
  | .rdPicPrio26 => encodeRead (.prio 26)
  | .wrPicPrio26 v => encodeWrite (.prio 26) v
  | .rdPicPrio27 => encodeRead (.prio 27)
  | .wrPicPrio27 v => encodeWrite (.prio 27) v
  | .rdPicPrio28 => encodeRead (.prio 28)
  | .wrPicPrio28 v => encodeWrite (.prio 28) v
  | .rdPicPrio29 => encodeRead (.prio 29)
  | .wrPicPrio29 v => encodeWrite (.prio 29) v
  | .rdPicPrio30 => encodeRead (.prio 30)
  | .wrPicPrio30 v => encodeWrite (.prio 30) v
  | .rdPicPrio31 => encodeRead (.prio 31)
  | .wrPicPrio31 v => encodeWrite (.prio 31) v
  | .rdTmrCtrl => encodeRead .tCtrl
  | .wrTmrCtrl v => encodeWrite .tCtrl v
  | .rdTmrCount => encodeRead .tCount
  | .wrTmrCount v => encodeWrite .tCount v
  | .rdTmrReload => encodeRead .tReload
  | .wrTmrReload v => encodeWrite .tReload v
  | .rdTmrMatch => encodeRead .tMatch
  | .wrTmrMatch v => encodeWrite .tMatch v
  | .rdTmrIen => encodeRead .tIen
  | .wrTmrIen v => encodeWrite .tIen v
  | .rdTmrIpend => encodeRead .tIpend
  | .wrTmrIpend v => encodeWrite .tIpend v
  | .rdTmrIack => encodeRead .tIack
  | .wrTmrIack v => encodeWrite .tIack v
  | .picInit => .op [0x01#32]
  | .picRegisterHandler line h => .op [0x02#32, line, h]
  | .picMasterEnable => .op [0x03#32]
  | .picMasterDisable => .op [0x04#32]
  | .picEnableInterrupt line => .op [0x05#32, line]
  | .picDisableInterrupt line => .op [0x06#32, line]
  | .picSetPriority line priority => .op [0x07#32, line, priority]
  | .picDispatch => .op [0x08#32]
  | .tmrSetPrescaler value => .op [0x20#32, value]
  | .tmrEnableAutoreload => .op [0x21#32]
  | .tmrDisableAutoreload => .op [0x22#32]
  | .tmrEnablePrescaler => .op [0x23#32]
  | .tmrDisablePrescaler => .op [0x24#32]
  | .tmrEnableInterrupts => .op [0x25#32]
  | .tmrDisableInterrupts => .op [0x26#32]
  | .tmrStart => .op [0x27#32]
  | .tmrStop => .op [0x28#32]
  | .tmrSetCounter value => .op [0x29#32, value]
  | .tmrSetReload value => .op [0x2A#32, value]
  | .tmrSetMatch value => .op [0x2B#32, value]
  | .tmrEnableIndividualInterrupts mask => .op [0x2C#32, mask]
  | .tmrGetInterruptsPending => .op [0x2D#32]
  | .tmrAcknowledgeInterrupts mask => .op [0x2E#32, mask]
  | .evLine n level => .op [0x60#32, n, if level then 1#32 else 0#32]
  | .evTick => .op [0x61#32]
  | .trapExtIrq epc regs => encodeTrap 0x8000000F#32 epc regs
  | .trapEcallM epc regs => encodeTrap 0x0000000B#32 epc regs
  | .trapHaltIrq code epc regs => encodeTrap (irqCause code) epc regs
  | .trapHaltExc code epc regs => encodeTrap (excCause code) epc regs

/-! ### A row of the opcode table as a word (log 10) -/

/-- The words of an instruction whose table row has `nbits` bits and code word `w`: every operand word zero. -/
def tableWords (w : Nat) : List Word :=
  BitVec.ofNat 32 w :: List.replicate 33 0#32

/-- The decoder of the row's format, told by its width: HOSTOP rows have 8 bits, BUSREQ rows 10 bits (two whole bytes),
CAUSE rows 32 bits. -/
def decodeRow (nbits : Nat) (ws : List Word) : Except Reject (Instr × List Word) :=
  if nbits ≤ 8 then decodeOpWords ws else if nbits ≤ 16 then decodeBusWords ws else decodeTrapWords ws

/-- What the decoder reads from a row's word with zero operands. -/
def decodeTableWord (nbits w : Nat) : Option Instr :=
  if 2 ^ 32 ≤ w then none
  else
    match decodeRow nbits (tableWords w) with
    | .ok (i, _) => some i
    | .error _ => none

/-- The request that carries a row's word with zero operands: as many words as its decoder uses. -/
def tableRequest (nbits w : Nat) : Request :=
  let ws := tableWords w
  let used :=
    match decodeRow nbits ws with
    | .ok (_, rest) => ws.take (ws.length - rest.length)
    | .error _ => [BitVec.ofNat 32 w]
  if nbits ≤ 8 then .op used else if nbits ≤ 16 then .busreq used else .trap used

end Sys2Proof
end

