-- ==== Sys2Proof/Machine/State.lean ====
section
/-! DEFINITION. The state of the block (R22), as plain data, and its reset value (R270, R271). -/

namespace Sys2Proof.Machine

/-- The fault kinds of R241. A step that raises one is a NEXT state that records it in `State.faults` and does nothing
else (R240; log 7); no step answers `Outcome.fault`. All are safe: the model stops where the spec says so (D15). -/
inductive Fault where
  /-- Raised by a transaction whose size is not one word (R65). Safe. -/
  | badWidth
  /-- Raised by a word transaction at an address that is no multiple of 4 (R66). Safe. -/
  | misaligned
  /-- Raised by a transaction outside both register regions (R67). Safe. -/
  | unmapped
  /-- Raised by every PIC driver operation but `pic.init` before `pic.init` (R141). Safe. -/
  | preInit
  /-- Raised by `pic.init` and `pic.register_handler` while a trap is in service (R142, R140). Safe. -/
  | tableWriteInTrap
  /-- Raised by the dispatch's first phase on a slot that is still `Uninit` (R161). Safe. -/
  | uninitSlot
  /-- Raised by `pic.dispatch` while the engine is not `Idle` (R160). Safe. -/
  | nestedDispatch
  /-- Raised by a trap presented while one is in service (R220, R245). Safe. -/
  | nestedTrap
deriving DecidableEq, Repr

/-- Steps the spec does not admit. -/
inductive Refusal where
  /-- An operation whose meaning is not written yet: exec's arm raises it. Safe. -/
  | notModelled (mnemonic : String)
  /-- Raised by every step of a run that has recorded a fault (R240, V-MEM-7). Safe. -/
  | quiescent
  /-- Raised by every operation but `ev.line` and `ev.tick` in `Halted(_)` (R242, R220). Safe. -/
  | halted
  /-- Raised by a program's operation while the trap engine holds the block and no program may issue (R8, R37;
  log 25). `step` lets the operation wait instead. Safe. -/
  | engineBusy
  /-- Raised by an operation issued between the two transactions of the same agent's driver operation (R74, log 25).
  `step` finishes the driver operation first. Safe. -/
  | opInFlight
  /-- Raised by `ev.line n` with `n` outside 1..31 (R120). Safe. -/
  | lineNotEnvironment
  /-- Raised by a request that is no operation: a HOSTOP id with no row (R95 d), or words of no form (log 9). Safe. -/
  | undecodable (r : Reject)
  /-- Raised by a completion signal, or by an operation of the handler, while no registered handler runs (R164, R169).
  Safe. -/
  | noHandlerRunning
  /-- Raised by an answer of the syscall oracle that nothing waits for (R225). Safe. -/
  | noSyscallWaiting
deriving DecidableEq, Repr

/-- What a dispatch can invoke: the default handler, which performs no action, or a registered one (R33). -/
inductive Callback where
  | defaultHandler
  | registered (h : HandlerId)
deriving DecidableEq, Repr

/-- One entry of the handler table (R33). -/
inductive Slot where
  | uninit
  | holds (c : Callback)
deriving DecidableEq, Repr

/-- Who started the dispatch in progress (R36, R160). -/
inductive Origin where
  | trap | host
deriving DecidableEq, Repr

/-- Why the block halted (R222, R223). -/
inductive HaltReason where
  | unknownInterrupt (code : Word)
  | unknownException (cause : Word)
deriving DecidableEq, Repr

/-- The trap engine (R36). `origin`, the captured line and the captured slot exist only while a dispatch is in
progress, so they are held here (R36, R161, R162; log 4). -/
inductive Engine where
  | idle
  | decode
  | picRead (origin : Origin)
  | invoking (origin : Origin) (line : Fin 32) (callback : Callback)
  | acking (origin : Origin) (line : Fin 32)
  | syscall
  | returning
  | halted (reason : HaltReason)
deriving DecidableEq, Repr

/-- `Main` or `Trap` (R37). -/
inductive Context where
  | main | trap
deriving DecidableEq, Repr

/-- The agents that issue operations (R8). -/
inductive Agent where
  | host | handler
deriving DecidableEq, Repr

/-- A driver operation whose read transaction is done and whose write transaction is still to come (R74): the
operation and the word it read (log 6). -/
structure InFlight where
  op : Instr
  read : Word
deriving DecidableEq, Repr

/-- What passes through a port of the block (R14, R17, R18, R19; log 8). -/
inductive PortEvent where
  /-- A read transaction and the word it returned. -/
  | read (r : BusReg) (v : Word)
  /-- A write transaction and its data. -/
  | write (r : BusReg) (v : Word)
  /-- The start of the handler of a line. -/
  | invoke (line : Fin 32) (c : Callback)
  /-- The syscall oracle was handed the snapshot and answered this word. -/
  | syscall (regs : Snapshot) (result : Word)
  /-- The trap port put out the resume pc and the snapshot. -/
  | trapReturn (pc : Word) (regs : Snapshot)
deriving DecidableEq, Repr

/-- What the outside of the block does next (R8; log 5). -/
inductive Stimulus where
  /-- A request and the program whose operation it is, the host's or the handler's (R8). For an event of the environment,
  which is no program's, the agent says nothing. -/
  | request (a : Agent) (r : Request)
  /-- The turn goes to the trap engine, or to the driver operation in progress. -/
  | turn
  /-- The running handler signals its completion (R164). -/
  | handlerDone
  /-- The syscall oracle answers (R225, R19). -/
  | syscallReturn (v : Word)
deriving DecidableEq, Repr

/-- The state of the block (R22). -/
structure State where
  /-- The implementation parameters (R9); no step changes them (log 1). -/
  params : Params
  /-- `STATUS_MIE` (R25). -/
  statusMie : Bool
  /-- `ENABLE` (R26). -/
  enable : Word
  /-- `PENDING` (R27). -/
  pending : Word
  /-- `PRIO[0..31]`, 5 bits each (R29). -/
  prio : Vector (BitVec 5) 32
  /-- `irq_prev[31:0]` (R31). -/
  irqPrev : Word
  /-- `irq_in[31:1]`, the environment's lines: bit `k` is line `k + 1` (R30). -/
  irqLines : BitVec 31
  /-- `initialised` (R34). -/
  initialised : Bool
  /-- `slot[0..31]` (R33). -/
  slots : Vector Slot 32
  /-- `engine`, with `origin` (R36). -/
  engine : Engine
  /-- `cause` of the trap in service (R22, R220). -/
  cause : Word
  /-- `epc` of the trap in service (R24). -/
  epc : Word
  /-- `snap[0..31]` (R23). -/
  snap : Snapshot
  /-- `resume_pc` (R24). -/
  resumePc : Word
  /-- `T_CTRL`: the seven implemented bits, bits 31:7 being RAZ/WI (R39; log 27). -/
  tCtrl : BitVec 7
  /-- `T_COUNT` (R40). -/
  tCount : Word
  /-- `T_RELOAD` (R41). -/
  tReload : Word
  /-- `T_MATCH` (R42). -/
  tMatch : Word
  /-- `T_IEN`: the two implemented bits (R43; log 27). -/
  tIen : BitVec 2
  /-- `T_IPEND`: the two implemented bits (R44; log 27). -/
  tIpend : BitVec 2
  /-- `psc_cnt` (R46). -/
  pscCnt : Nat
  /-- The host program's driver operation in progress (R74; log 6). -/
  hostOp : Option InFlight
  /-- The running handler's driver operation in progress (R74; log 6). -/
  handlerOp : Option InFlight
  /-- `faults` (R49). -/
  faults : List Fault
  /-- The model's own: how often the syscall oracle's free value was drawn (log 13). -/
  draws : Nat
  /-- The model's own: what the outside of the block does, in order (log 5). -/
  inputs : List Stimulus
  /-- The model's own: what has passed through the ports, newest first (log 8). -/
  trace : List PortEvent
deriving DecidableEq, Repr

/-- The machine right after reset (R270, R271). `cause`, `epc`, `snap` and `resumePc` have no reset value in the spec
and hold 0 (log 3); the parameters are R9's (log 1, 2). -/
def State.reset : State where
  params := Config.defaultParams
  statusMie := false
  enable := 0x00000000#32
  pending := 0x00000000#32
  prio := Vector.replicate 32 0#5
  irqPrev := 0x00000000#32
  irqLines := 0#31
  initialised := false
  slots := Vector.replicate 32 .uninit
  engine := .idle
  cause := 0#32
  epc := 0#32
  snap := Vector.replicate 32 0#32
  resumePc := 0#32
  tCtrl := 0#7
  tCount := 0x00000000#32
  tReload := 0x00000000#32
  tMatch := 0x00000000#32
  tIen := 0#2
  tIpend := 0#2
  pscCnt := 0
  hostOp := none
  handlerOp := none
  faults := []
  draws := 0
  inputs := []
  trace := []

end Sys2Proof.Machine
end

