-- ==== Sys2Proof/Machine/Operands.lean ====
section
/-! DEFINITION. Operand assembly (R85 to R92). -/

namespace Sys2Proof.Machine

/-- R85: the line number is the lowest 5 bits of the STATUS word. -/
def lineOfStatus (status : Word) : Fin 32 :=
  Fin.ofNat 32 (status &&& 0x1F#32).toNat

/-- R88: a line operand is in range when `uint(line) < 32`. -/
def lineOperand (line : Word) : Option (Fin 32) :=
  if h : line.toNat < 32 then some ⟨line.toNat, h⟩ else none

/-- R86: the mask of line `n`, `1 << n`. -/
def lineMask (n : Fin 32) : Word :=
  1#32 <<< n.val

/-- R87: a priority operand, clamped to 31 if larger. -/
def clampPriority (priority : Word) : Word :=
  if 31 < priority.toNat then 31#32 else priority

/-- R29, R110: what a priority register stores of a written word (saturating, not truncating). -/
def priorityField (v : Word) : BitVec 5 :=
  if 31 < v.toNat then 31#5 else v.setWidth 5

/-- `MIE_MASK`, `1 << STATUS_MIE_BIT` (R143). -/
def mieMask (p : Params) : Word :=
  1#32 <<< p.mieBit.val

/-- R89: START. -/
def startMask : Word := 0x01#32

/-- R89: IE. -/
def ieMask : Word := 0x02#32

/-- R89: PSE. -/
def pseMask : Word := 0x04#32

/-- R89: ARE. -/
def areMask : Word := 0x08#32

/-- R89: the PSC field. -/
def pscMask : Word := 0x70#32

/-- R90: the control word with the prescaler field replaced. -/
def withPrescaler (value ctrl : Word) : Word :=
  (ctrl &&& ~~~pscMask) ||| ((value &&& 0x7#32) <<< 4)

/-- A read-modify-write that sets the bits of a mask. -/
def setBits (mask word : Word) : Word :=
  word ||| mask

/-- A read-modify-write that clears the bits of a mask. -/
def clearBits (mask word : Word) : Word :=
  word &&& ~~~mask

end Sys2Proof.Machine
end

