-- ==== Sys2Proof/Machine/Flags.lean ====
section
/-! DEFINITION. The flags and derived signals: the timer's control bits and output, the input lines, the latch, the
arbiter and the request to the CPU (R39, R185, R120 to R129). -/

namespace Sys2Proof.Machine

/-- `T_CTRL.START` (R39). -/
def State.start (s : State) : Bool := s.tCtrl.getLsbD 0

/-- `T_CTRL.IE` (R39). -/
def State.timerIe (s : State) : Bool := s.tCtrl.getLsbD 1

/-- `T_CTRL.PSE` (R39). -/
def State.pse (s : State) : Bool := s.tCtrl.getLsbD 2

/-- `T_CTRL.ARE` (R39). -/
def State.are (s : State) : Bool := s.tCtrl.getLsbD 3

/-- `T_CTRL.PSC`, bits 6:4 (R39). -/
def State.psc (s : State) : BitVec 3 := s.tCtrl.extractLsb' 4 3

/-- `PRESCALE_DIV(T_CTRL.PSC)` (R184). -/
def State.prescale (s : State) : Nat :=
  s.params.prescaleDiv[s.psc.toNat]'s.psc.isLt

/-- R185: the timer's output, a level. -/
def State.timerOut (s : State) : Bool :=
  s.timerIe && (s.tIpend &&& s.tIen) != 0#2

/-- R30, R15: the 32 input levels; line 0 is the timer's output. -/
def State.irqIn (s : State) : Word :=
  s.irqLines ++ BitVec.ofBool s.timerOut

/-- R121: the latch, which samples all 32 inputs at the end of every step. A rising edge sets the pending bit. -/
def latch (s : State) : State :=
  { s with pending := s.pending ||| (s.irqIn &&& ~~~s.irqPrev), irqPrev := s.irqIn }

/-- R124: the candidate set, `PENDING & ENABLE`. -/
def State.candidates (s : State) : Word :=
  s.pending &&& s.enable

/-- The 32 lines, lowest first. -/
def allLines : List (Fin 32) := List.finRange 32

/-- The candidates, lowest line first (R124). -/
def State.candidateLines (s : State) : List (Fin 32) :=
  allLines.filter fun n => s.candidates.getLsbD n.val

/-- The winning one of two priorities (R125). -/
def betterPrio (o : PrioOrder) (a b : BitVec 5) : BitVec 5 :=
  match o with
  | .higherWins => if a < b then b else a
  | .lowerWins => if b < a then b else a

/-- R125: the best priority among the candidates, then the lowest candidate that has it; 0 without a candidate. -/
def State.selLine (s : State) : Fin 32 :=
  match s.candidateLines with
  | [] => 0
  | c :: cs =>
    let best := cs.foldl (fun b n => betterPrio s.params.prioOrder b s.prio[n]) s.prio[c]
    ((c :: cs).find? fun n => s.prio[n] == best).getD 0

/-- R126: the one request line to the CPU, a level. -/
def State.irqOut (s : State) : Bool :=
  s.statusMie && s.candidates != 0#32

/-- R25, R101: what a read of STATUS returns. -/
def State.statusWord (s : State) : Word :=
  ((BitVec.ofBool s.statusMie).setWidth 32 <<< s.params.mieBit.val) ||| BitVec.ofNat 32 s.selLine.val

/-- R37: `Trap` exactly when the engine is neither `Idle` nor `Halted(_)` (log 24). -/
def State.context (s : State) : Context :=
  match s.engine with
  | .idle | .halted _ => .main
  | .decode | .picRead _ | .invoking _ _ _ | .acking _ _ | .syscall | .returning => .trap

/-- Who may issue operations (R8, R37): the host program in `Main`, a registered handler while it runs, nobody else. -/
def State.issuer (s : State) : Option Agent :=
  match s.engine with
  | .idle => some .host
  | .invoking _ _ (.registered _) => some .handler
  | .decode | .picRead _ | .invoking _ _ .defaultHandler | .acking _ _ | .syscall | .returning | .halted _ => none

end Sys2Proof.Machine
end

