-- ==== Sys2Proof/Machine/Ops.lean ====
section
/-! DEFINITION. The shared operations: registers on the bus, what a program may issue, the two-step driver operations,
recording a fault, taking a trap and returning from it. -/

namespace Sys2Proof.Machine

/-- What a step answers. -/
abbrev Result := Host.Outcome State Fault Refusal

/-! ### Registers on the bus -/

/-- The word a read of a register returns (R101, R103, R105, R108, R109, R187, R189, R191 to R195). -/
def readReg (r : BusReg) (s : State) : Word :=
  match r with
  | .status => s.statusWord
  | .enable => s.enable
  | .pending => s.pending
  | .ack => 0x00000000#32
  | .prio n => s.prio[n].setWidth 32
  | .tCtrl => s.tCtrl.setWidth 32
  | .tCount => s.tCount
  | .tReload => s.tReload
  | .tMatch => s.tMatch
  | .tIen => s.tIen.setWidth 32
  | .tIpend => s.tIpend.setWidth 32
  | .tIack => 0x00000000#32

/-- R188: a control write that changes PSE or PSC resets `psc_cnt`. -/
def writeCtrl (v : Word) (s : State) : State :=
  let t := { s with tCtrl := v.setWidth 7 }
  { t with pscCnt := if t.pse = s.pse ∧ t.psc = s.psc then s.pscCnt else 0 }

/-- What a write of `v` to a register does (R102, R104, R106, R107, R110, R188, R190 to R195). -/
def writeReg (r : BusReg) (v : Word) (s : State) : State :=
  match r with
  | .status => { s with statusMie := v.getLsbD s.params.mieBit.val }
  | .enable => { s with enable := v }
  | .pending => s
  | .ack => { s with pending := s.pending &&& ~~~v }
  | .prio n => { s with prio := s.prio.set n.val (priorityField v) }
  | .tCtrl => writeCtrl v s
  | .tCount => { s with tCount := v }
  | .tReload => { s with tReload := v }
  | .tMatch => { s with tMatch := v }
  | .tIen => { s with tIen := v.setWidth 2 }
  | .tIpend => s
  | .tIack => { s with tIpend := s.tIpend &&& ~~~(v.setWidth 2) }

/-- A port event is recorded (log 8). -/
def emit (e : PortEvent) (s : State) : State :=
  { s with trace := e :: s.trace }

/-- One read transaction (R12 `MemRead`): the register's word goes out, nothing else changes. -/
def memRead (r : BusReg) (s : State) : State :=
  emit (.read r (readReg r s)) s

/-- One write transaction (R12 `MemWrite`). -/
def memWrite (r : BusReg) (v : Word) (s : State) : State :=
  emit (.write r v) (writeReg r v s)

/-! ### Faults and admission -/

/-- R240: the fault is recorded and the operation performs nothing else. -/
def recordFault (k : Fault) (s : State) : State :=
  { s with faults := if k ∈ s.faults then s.faults else k :: s.faults }

/-- R240: in a run that has recorded a fault no agent has a step. -/
def unfaulted (s : State) (k : Result) : Result :=
  match s.faults with
  | [] => k
  | _ :: _ => .refused .quiescent

/-- R242: in `Halted(_)` no agent but the environment has a step. -/
def unhalted (s : State) (k : Result) : Result :=
  unfaulted s
    (match s.engine with
     | .halted _ => .refused .halted
     | _ => k)

/-- The driver operation an agent has in progress. -/
def State.inFlight (s : State) : Agent → Option InFlight
  | .host => s.hostOp
  | .handler => s.handlerOp

/-- The same, replaced. -/
def State.withOp (s : State) (a : Agent) (o : Option InFlight) : State :=
  match a with
  | .host => { s with hostOp := o }
  | .handler => { s with handlerOp := o }

/-- An operation is issued by the agent that may issue one (R8, R37). -/
def byIssuer (s : State) (k : Agent → Result) : Result :=
  unhalted s
    (match s.issuer with
     | none => .refused .engineBusy
     | some a => k a)

/-- An operation that is one step: its agent has no driver operation in progress, and the latch samples at the end (R121). -/
def oneStep (f : State → State) (s : State) : Result :=
  byIssuer s fun a =>
    match s.inFlight a with
    | none => .next (latch (f s))
    | some _ => .refused .opInFlight

/-- A read transaction issued by a program (R100, R186). -/
def busRead (r : BusReg) (s : State) : Result :=
  oneStep (memRead r) s

/-- A write transaction issued by a program (R100, R186). -/
def busWrite (r : BusReg) (v : Word) (s : State) : Result :=
  oneStep (memWrite r v) s

/-- A driver operation that reads a register and writes back a function of the word it read: two transactions, two
steps (R74, R97). The first step leaves the operation in progress with the word it read; the second, of the same
operation, writes (log 6). -/
def readModifyWrite (op : Instr) (r : BusReg) (f : Word → Word) (s : State) : Result :=
  byIssuer s fun a =>
    match s.inFlight a with
    | none => .next (latch (memRead r (s.withOp a (some ⟨op, readReg r s⟩))))
    | some g =>
      if g.op = op then .next (latch (memWrite r (f g.read) (s.withOp a none)))
      else .refused .opInFlight

/-- A transaction that faults before it reaches a register (R65 to R67, R240). -/
def busFault (k : AccessFault) (s : State) : Result :=
  byIssuer s fun _ =>
    .next (recordFault (match k with | .unmapped => .unmapped | .badWidth => .badWidth | .misaligned => .misaligned) s)

/-- R141: a PIC driver operation other than `pic.init` before `pic.init` (log 17). -/
def afterInit (s : State) (k : Result) : Result :=
  unhalted s (if s.initialised then k else .next (recordFault .preInit s))

/-- R142, R140: the handler table is not written while a trap is in service (log 17). -/
def outsideTrap (s : State) (k : Result) : Result :=
  unhalted s
    (match s.context with
     | .trap => .next (recordFault .tableWriteInTrap s)
     | .main => k)

/-! ### Taking a trap and returning from it -/

/-- R220: the trap port takes the descriptor. The cause, the saved pc and the snapshot are saved, and the decoder is
entered; no mode, mask or PIC register changes (R249, R229). A trap presented while one is in service faults (R245). -/
def presentTrap (cause epc : Word) (regs : Snapshot) (s : State) : Result :=
  unhalted s
    (match s.engine with
     | .idle => .next (latch { s with cause := cause, epc := epc, snap := regs, engine := .decode })
     | _ => .next (recordFault .nestedTrap s))

/-- R227: the trap port puts out the resume pc and the snapshot, and the engine is idle again. -/
def trapReturn (s : State) : State :=
  latch (emit (.trapReturn s.resumePc s.snap) { s with engine := .idle })

end Sys2Proof.Machine
end

