-- ==== Sys2Proof/Machine/TimerCount.lean ====
section
/-! DEFINITION. The timer's counting (R180 to R184). -/

namespace Sys2Proof.Machine

/-- R182: the overflow. With ARE the counter reloads; without it the counter becomes 0 and START is cleared. -/
def timerOverflow (s : State) : State :=
  if s.are then { s with tIpend := s.tIpend ||| 0b01#2, tCount := s.tReload }
  else { s with tIpend := s.tIpend ||| 0b01#2, tCount := 0x00000000#32, tCtrl := s.tCtrl &&& 0b1111110#7 }

/-- R183: the match event, compared after the count. -/
def timerMatch (s : State) : State :=
  if s.tCount = s.tMatch then { s with tIpend := s.tIpend ||| 0b10#2 } else s

/-- R181: one effective count. -/
def countStep (s : State) : State :=
  timerMatch (if s.tCount = 0xFFFFFFFF#32 then timerOverflow s else { s with tCount := s.tCount + 1#32 })

/-- R180: one input tick, through the prescaler. -/
def timerTick (s : State) : State :=
  if s.start then
    if s.pse then
      if s.pscCnt + 1 = s.prescale then countStep { s with pscCnt := 0 }
      else { s with pscCnt := s.pscCnt + 1 }
    else countStep s
  else s

end Sys2Proof.Machine
end

