-- ==== Sys2Proof/Machine/Events.lean ====
section
/-! DEFINITION. The environment's events: input lines, timer ticks, traps (R120, R180, R220). -/

namespace Sys2Proof.Machine

/-- The environment's lines with bit `k` (line `k + 1`) driven to a level (R30, R120). -/
def setLine (lines : BitVec 31) (k : Nat) (level : Bool) : BitVec 31 :=
  if level then lines ||| (1#31 <<< k) else lines &&& ~~~(1#31 <<< k)

/-- R120: the environment drives line `n` of 1..31 to a level. -/
def execEvLine (n : Word) (level : Bool) (s : State) : Result :=
  unfaulted s
    (if 1 ≤ n.toNat ∧ n.toNat ≤ 31 then
      .next (latch { s with irqLines := setLine s.irqLines (n.toNat - 1) level })
     else .refused .lineNotEnvironment)

/-- R180: one timer input tick. -/
def execEvTick (s : State) : Result :=
  unfaulted s (.next (latch (timerTick s)))

/-- R220: a trap of class `ExtIrq` is presented; the engine's steps route it to a dispatch (R221, R160). -/
def execTrapExtIrq (epc : Word) (regs : Snapshot) (s : State) : Result :=
  presentTrap extIrqCause epc regs s

/-- R220: a trap of class `EcallM` is presented; the engine's steps run the system call (R221, R225). -/
def execTrapEcallM (epc : Word) (regs : Snapshot) (s : State) : Result :=
  presentTrap ecallMCause epc regs s

/-- R220: a trap of class `HaltIrq` is presented; the engine's decode step halts (R222). -/
def execTrapHaltIrq (code : BitVec 31) (epc : Word) (regs : Snapshot) (s : State) : Result :=
  presentTrap (irqCause code) epc regs s

/-- R220: a trap of class `HaltExc` is presented; the engine's decode step halts (R223). -/
def execTrapHaltExc (code : BitVec 31) (epc : Word) (regs : Snapshot) (s : State) : Result :=
  presentTrap (excCause code) epc regs s

end Sys2Proof.Machine
end

