-- ==== Sys2Proof/Machine/PicDriver.lean ====
section
/-! DEFINITION. The PIC driver operations (R140 to R150, R160). -/

namespace Sys2Proof.Machine

/-- R140: every slot holds the default handler and the table counts as initialised; no transaction. -/
def execPicInit (s : State) : Result :=
  outsideTrap s (oneStep (fun s => { s with slots := Vector.replicate 32 (.holds .defaultHandler), initialised := true }) s)

/-- R142: the slot of an in-range line holds `h`; an out-of-range line is silently ignored. -/
def execPicRegisterHandler (line : Word) (h : HandlerId) (s : State) : Result :=
  afterInit s
    (outsideTrap s
      (oneStep
        (fun s =>
          match lineOperand line with
          | some n => { s with slots := s.slots.set n.val (.holds (.registered h)) }
          | none => s)
        s))

/-- R143: MIE set by read-modify-write of STATUS. -/
def execPicMasterEnable (s : State) : Result :=
  afterInit s (readModifyWrite .picMasterEnable .status (setBits (mieMask s.params)) s)

/-- R144: MIE cleared by read-modify-write of STATUS. -/
def execPicMasterDisable (s : State) : Result :=
  afterInit s (readModifyWrite .picMasterDisable .status (clearBits (mieMask s.params)) s)

/-- R145: the line's bit set by read-modify-write of ENABLE; an out-of-range line issues no transaction. -/
def execPicEnableInterrupt (line : Word) (s : State) : Result :=
  afterInit s
    (match lineOperand line with
     | some n => readModifyWrite (.picEnableInterrupt line) .enable (setBits (lineMask n)) s
     | none => oneStep id s)

/-- R146: the line's bit cleared by read-modify-write of ENABLE; an out-of-range line issues no transaction. -/
def execPicDisableInterrupt (line : Word) (s : State) : Result :=
  afterInit s
    (match lineOperand line with
     | some n => readModifyWrite (.picDisableInterrupt line) .enable (clearBits (lineMask n)) s
     | none => oneStep id s)

/-- R147: one write of the clamped priority, no read; an out-of-range line issues no transaction. -/
def execPicSetPriority (line priority : Word) (s : State) : Result :=
  afterInit s
    (match lineOperand line with
     | some n => busWrite (.prio n) (clampPriority priority) s
     | none => oneStep id s)

/-- R160 (b): the host starts a dispatch; its phases are the engine's steps (R161 to R165). -/
def execPicDispatch (s : State) : Result :=
  afterInit s
    (match s.engine with
     | .idle => oneStep (fun s => { s with engine := .picRead .host }) s
     | _ => .next (recordFault .nestedDispatch s))

end Sys2Proof.Machine
end

