-- ==== Sys2Proof/Machine/PicPrio.lean ====
section
/-! DEFINITION. The priority register transactions (R109, R110), one pair per line. -/

namespace Sys2Proof.Machine

/-- R109: `rd PIC.PRIO[0]`. -/
def execRdPicPrio0 (s : State) : Result := busRead (.prio 0) s

/-- R110: `wr PIC.PRIO[0], v`. -/
def execWrPicPrio0 (v : Word) (s : State) : Result := busWrite (.prio 0) v s

/-- R109: `rd PIC.PRIO[1]`. -/
def execRdPicPrio1 (s : State) : Result := busRead (.prio 1) s

/-- R110: `wr PIC.PRIO[1], v`. -/
def execWrPicPrio1 (v : Word) (s : State) : Result := busWrite (.prio 1) v s

/-- R109: `rd PIC.PRIO[2]`. -/
def execRdPicPrio2 (s : State) : Result := busRead (.prio 2) s

/-- R110: `wr PIC.PRIO[2], v`. -/
def execWrPicPrio2 (v : Word) (s : State) : Result := busWrite (.prio 2) v s

/-- R109: `rd PIC.PRIO[3]`. -/
def execRdPicPrio3 (s : State) : Result := busRead (.prio 3) s

/-- R110: `wr PIC.PRIO[3], v`. -/
def execWrPicPrio3 (v : Word) (s : State) : Result := busWrite (.prio 3) v s

/-- R109: `rd PIC.PRIO[4]`. -/
def execRdPicPrio4 (s : State) : Result := busRead (.prio 4) s

/-- R110: `wr PIC.PRIO[4], v`. -/
def execWrPicPrio4 (v : Word) (s : State) : Result := busWrite (.prio 4) v s

/-- R109: `rd PIC.PRIO[5]`. -/
def execRdPicPrio5 (s : State) : Result := busRead (.prio 5) s

/-- R110: `wr PIC.PRIO[5], v`. -/
def execWrPicPrio5 (v : Word) (s : State) : Result := busWrite (.prio 5) v s

/-- R109: `rd PIC.PRIO[6]`. -/
def execRdPicPrio6 (s : State) : Result := busRead (.prio 6) s

/-- R110: `wr PIC.PRIO[6], v`. -/
def execWrPicPrio6 (v : Word) (s : State) : Result := busWrite (.prio 6) v s

/-- R109: `rd PIC.PRIO[7]`. -/
def execRdPicPrio7 (s : State) : Result := busRead (.prio 7) s

/-- R110: `wr PIC.PRIO[7], v`. -/
def execWrPicPrio7 (v : Word) (s : State) : Result := busWrite (.prio 7) v s

/-- R109: `rd PIC.PRIO[8]`. -/
def execRdPicPrio8 (s : State) : Result := busRead (.prio 8) s

/-- R110: `wr PIC.PRIO[8], v`. -/
def execWrPicPrio8 (v : Word) (s : State) : Result := busWrite (.prio 8) v s

/-- R109: `rd PIC.PRIO[9]`. -/
def execRdPicPrio9 (s : State) : Result := busRead (.prio 9) s

/-- R110: `wr PIC.PRIO[9], v`. -/
def execWrPicPrio9 (v : Word) (s : State) : Result := busWrite (.prio 9) v s

/-- R109: `rd PIC.PRIO[10]`. -/
def execRdPicPrio10 (s : State) : Result := busRead (.prio 10) s

/-- R110: `wr PIC.PRIO[10], v`. -/
def execWrPicPrio10 (v : Word) (s : State) : Result := busWrite (.prio 10) v s

/-- R109: `rd PIC.PRIO[11]`. -/
def execRdPicPrio11 (s : State) : Result := busRead (.prio 11) s

/-- R110: `wr PIC.PRIO[11], v`. -/
def execWrPicPrio11 (v : Word) (s : State) : Result := busWrite (.prio 11) v s

/-- R109: `rd PIC.PRIO[12]`. -/
def execRdPicPrio12 (s : State) : Result := busRead (.prio 12) s

/-- R110: `wr PIC.PRIO[12], v`. -/
def execWrPicPrio12 (v : Word) (s : State) : Result := busWrite (.prio 12) v s

/-- R109: `rd PIC.PRIO[13]`. -/
def execRdPicPrio13 (s : State) : Result := busRead (.prio 13) s

/-- R110: `wr PIC.PRIO[13], v`. -/
def execWrPicPrio13 (v : Word) (s : State) : Result := busWrite (.prio 13) v s

/-- R109: `rd PIC.PRIO[14]`. -/
def execRdPicPrio14 (s : State) : Result := busRead (.prio 14) s

/-- R110: `wr PIC.PRIO[14], v`. -/
def execWrPicPrio14 (v : Word) (s : State) : Result := busWrite (.prio 14) v s

/-- R109: `rd PIC.PRIO[15]`. -/
def execRdPicPrio15 (s : State) : Result := busRead (.prio 15) s

/-- R110: `wr PIC.PRIO[15], v`. -/
def execWrPicPrio15 (v : Word) (s : State) : Result := busWrite (.prio 15) v s

/-- R109: `rd PIC.PRIO[16]`. -/
def execRdPicPrio16 (s : State) : Result := busRead (.prio 16) s

/-- R110: `wr PIC.PRIO[16], v`. -/
def execWrPicPrio16 (v : Word) (s : State) : Result := busWrite (.prio 16) v s

/-- R109: `rd PIC.PRIO[17]`. -/
def execRdPicPrio17 (s : State) : Result := busRead (.prio 17) s

/-- R110: `wr PIC.PRIO[17], v`. -/
def execWrPicPrio17 (v : Word) (s : State) : Result := busWrite (.prio 17) v s

/-- R109: `rd PIC.PRIO[18]`. -/
def execRdPicPrio18 (s : State) : Result := busRead (.prio 18) s

/-- R110: `wr PIC.PRIO[18], v`. -/
def execWrPicPrio18 (v : Word) (s : State) : Result := busWrite (.prio 18) v s

/-- R109: `rd PIC.PRIO[19]`. -/
def execRdPicPrio19 (s : State) : Result := busRead (.prio 19) s

/-- R110: `wr PIC.PRIO[19], v`. -/
def execWrPicPrio19 (v : Word) (s : State) : Result := busWrite (.prio 19) v s

/-- R109: `rd PIC.PRIO[20]`. -/
def execRdPicPrio20 (s : State) : Result := busRead (.prio 20) s

/-- R110: `wr PIC.PRIO[20], v`. -/
def execWrPicPrio20 (v : Word) (s : State) : Result := busWrite (.prio 20) v s

/-- R109: `rd PIC.PRIO[21]`. -/
def execRdPicPrio21 (s : State) : Result := busRead (.prio 21) s

/-- R110: `wr PIC.PRIO[21], v`. -/
def execWrPicPrio21 (v : Word) (s : State) : Result := busWrite (.prio 21) v s

/-- R109: `rd PIC.PRIO[22]`. -/
def execRdPicPrio22 (s : State) : Result := busRead (.prio 22) s

/-- R110: `wr PIC.PRIO[22], v`. -/
def execWrPicPrio22 (v : Word) (s : State) : Result := busWrite (.prio 22) v s

/-- R109: `rd PIC.PRIO[23]`. -/
def execRdPicPrio23 (s : State) : Result := busRead (.prio 23) s

/-- R110: `wr PIC.PRIO[23], v`. -/
def execWrPicPrio23 (v : Word) (s : State) : Result := busWrite (.prio 23) v s

/-- R109: `rd PIC.PRIO[24]`. -/
def execRdPicPrio24 (s : State) : Result := busRead (.prio 24) s

/-- R110: `wr PIC.PRIO[24], v`. -/
def execWrPicPrio24 (v : Word) (s : State) : Result := busWrite (.prio 24) v s

/-- R109: `rd PIC.PRIO[25]`. -/
def execRdPicPrio25 (s : State) : Result := busRead (.prio 25) s

/-- R110: `wr PIC.PRIO[25], v`. -/
def execWrPicPrio25 (v : Word) (s : State) : Result := busWrite (.prio 25) v s

/-- R109: `rd PIC.PRIO[26]`. -/
def execRdPicPrio26 (s : State) : Result := busRead (.prio 26) s

/-- R110: `wr PIC.PRIO[26], v`. -/
def execWrPicPrio26 (v : Word) (s : State) : Result := busWrite (.prio 26) v s

/-- R109: `rd PIC.PRIO[27]`. -/
def execRdPicPrio27 (s : State) : Result := busRead (.prio 27) s

/-- R110: `wr PIC.PRIO[27], v`. -/
def execWrPicPrio27 (v : Word) (s : State) : Result := busWrite (.prio 27) v s

/-- R109: `rd PIC.PRIO[28]`. -/
def execRdPicPrio28 (s : State) : Result := busRead (.prio 28) s

/-- R110: `wr PIC.PRIO[28], v`. -/
def execWrPicPrio28 (v : Word) (s : State) : Result := busWrite (.prio 28) v s

/-- R109: `rd PIC.PRIO[29]`. -/
def execRdPicPrio29 (s : State) : Result := busRead (.prio 29) s

/-- R110: `wr PIC.PRIO[29], v`. -/
def execWrPicPrio29 (v : Word) (s : State) : Result := busWrite (.prio 29) v s

/-- R109: `rd PIC.PRIO[30]`. -/
def execRdPicPrio30 (s : State) : Result := busRead (.prio 30) s

/-- R110: `wr PIC.PRIO[30], v`. -/
def execWrPicPrio30 (v : Word) (s : State) : Result := busWrite (.prio 30) v s

/-- R109: `rd PIC.PRIO[31]`. -/
def execRdPicPrio31 (s : State) : Result := busRead (.prio 31) s

/-- R110: `wr PIC.PRIO[31], v`. -/
def execWrPicPrio31 (v : Word) (s : State) : Result := busWrite (.prio 31) v s

end Sys2Proof.Machine
end

