-- ==== Sys2Proof/Machine/PicRegs.lean ====
section
/-! DEFINITION. The PIC register transactions (R100 to R108): STATUS, ENABLE, PENDING, ACK. -/

namespace Sys2Proof.Machine

/-- R101: `rd PIC.STATUS`. -/
def execRdPicStatus (s : State) : Result := busRead .status s

/-- R102: `wr PIC.STATUS, v`. -/
def execWrPicStatus (v : Word) (s : State) : Result := busWrite .status v s

/-- R103: `rd PIC.ENABLE`. -/
def execRdPicEnable (s : State) : Result := busRead .enable s

/-- R104: `wr PIC.ENABLE, v`. -/
def execWrPicEnable (v : Word) (s : State) : Result := busWrite .enable v s

/-- R105: `rd PIC.PENDING`. -/
def execRdPicPending (s : State) : Result := busRead .pending s

/-- R107: `wr PIC.PENDING, v`. -/
def execWrPicPending (v : Word) (s : State) : Result := busWrite .pending v s

/-- R108: `rd PIC.ACK`. -/
def execRdPicAck (s : State) : Result := busRead .ack s

/-- R106: `wr PIC.ACK, v`. -/
def execWrPicAck (v : Word) (s : State) : Result := busWrite .ack v s

end Sys2Proof.Machine
end

