-- ==== Sys2Proof/Machine/TimerDriver.lean ====
section
/-! DEFINITION. The timer driver operations (R196 to R204). -/

namespace Sys2Proof.Machine

/-- R196: the PSC field replaced, by read-modify-write of T_CTRL. -/
def execTmrSetPrescaler (value : Word) (s : State) : Result :=
  readModifyWrite (.tmrSetPrescaler value) .tCtrl (withPrescaler value) s

/-- R197: ARE set, by read-modify-write of T_CTRL. -/
def execTmrEnableAutoreload (s : State) : Result :=
  readModifyWrite .tmrEnableAutoreload .tCtrl (setBits areMask) s

/-- R197: ARE cleared, by read-modify-write of T_CTRL. -/
def execTmrDisableAutoreload (s : State) : Result :=
  readModifyWrite .tmrDisableAutoreload .tCtrl (clearBits areMask) s

/-- R198: PSE set, by read-modify-write of T_CTRL. -/
def execTmrEnablePrescaler (s : State) : Result :=
  readModifyWrite .tmrEnablePrescaler .tCtrl (setBits pseMask) s

/-- R198: PSE cleared, by read-modify-write of T_CTRL. -/
def execTmrDisablePrescaler (s : State) : Result :=
  readModifyWrite .tmrDisablePrescaler .tCtrl (clearBits pseMask) s

/-- R199: IE set, by read-modify-write of T_CTRL. -/
def execTmrEnableInterrupts (s : State) : Result :=
  readModifyWrite .tmrEnableInterrupts .tCtrl (setBits ieMask) s

/-- R199: IE cleared, by read-modify-write of T_CTRL. -/
def execTmrDisableInterrupts (s : State) : Result :=
  readModifyWrite .tmrDisableInterrupts .tCtrl (clearBits ieMask) s

/-- R200: START set, by read-modify-write of T_CTRL. -/
def execTmrStart (s : State) : Result :=
  readModifyWrite .tmrStart .tCtrl (setBits startMask) s

/-- R200: START cleared, by read-modify-write of T_CTRL. -/
def execTmrStop (s : State) : Result :=
  readModifyWrite .tmrStop .tCtrl (clearBits startMask) s

/-- R201: one write, full overwrite. -/
def execTmrSetCounter (value : Word) (s : State) : Result := busWrite .tCount value s

/-- R201: one write, full overwrite. -/
def execTmrSetReload (value : Word) (s : State) : Result := busWrite .tReload value s

/-- R201: one write, full overwrite. -/
def execTmrSetMatch (value : Word) (s : State) : Result := busWrite .tMatch value s

/-- R202: the enable register overwritten with the mask. -/
def execTmrEnableIndividualInterrupts (mask : Word) (s : State) : Result := busWrite .tIen mask s

/-- R203: the pending register, verbatim. -/
def execTmrGetInterruptsPending (s : State) : Result := busRead .tIpend s

/-- R204: the mask written to the acknowledge register. -/
def execTmrAcknowledgeInterrupts (mask : Word) (s : State) : Result := busWrite .tIack mask s

end Sys2Proof.Machine
end

