-- ==== Sys2Proof/Machine/TimerRegs.lean ====
section
/-! DEFINITION. The timer register transactions (R186 to R195). -/

namespace Sys2Proof.Machine

/-- R187: `rd TMR.CTRL`. -/
def execRdTmrCtrl (s : State) : Result := busRead .tCtrl s

/-- R188: `wr TMR.CTRL, v`. -/
def execWrTmrCtrl (v : Word) (s : State) : Result := busWrite .tCtrl v s

/-- R189: `rd TMR.COUNT`. -/
def execRdTmrCount (s : State) : Result := busRead .tCount s

/-- R190: `wr TMR.COUNT, v`. -/
def execWrTmrCount (v : Word) (s : State) : Result := busWrite .tCount v s

/-- R191: `rd TMR.RELOAD`. -/
def execRdTmrReload (s : State) : Result := busRead .tReload s

/-- R191: `wr TMR.RELOAD, v`. -/
def execWrTmrReload (v : Word) (s : State) : Result := busWrite .tReload v s

/-- R192: `rd TMR.MATCH`. -/
def execRdTmrMatch (s : State) : Result := busRead .tMatch s

/-- R192: `wr TMR.MATCH, v`. -/
def execWrTmrMatch (v : Word) (s : State) : Result := busWrite .tMatch v s

/-- R193: `rd TMR.IEN`. -/
def execRdTmrIen (s : State) : Result := busRead .tIen s

/-- R193: `wr TMR.IEN, v`. -/
def execWrTmrIen (v : Word) (s : State) : Result := busWrite .tIen v s

/-- R194: `rd TMR.IPEND`. -/
def execRdTmrIpend (s : State) : Result := busRead .tIpend s

/-- R194: `wr TMR.IPEND, v`. -/
def execWrTmrIpend (v : Word) (s : State) : Result := busWrite .tIpend v s

/-- R195: `rd TMR.IACK`. -/
def execRdTmrIack (s : State) : Result := busRead .tIack s

/-- R195: `wr TMR.IACK, v`. -/
def execWrTmrIack (v : Word) (s : State) : Result := busWrite .tIack v s

end Sys2Proof.Machine
end

