-- ==== Sys2Proof/Machine/Dispatch.lean ====
section
/-! DEFINITION. What each operation does, one arm per constructor of Instr. -/

namespace Sys2Proof.Machine

def exec (i : Instr) (s : State) : Host.Outcome State Fault Refusal :=
  match i with
  | .rdPicStatus => Sys2Proof.Machine.execRdPicStatus s
  | .wrPicStatus v => Sys2Proof.Machine.execWrPicStatus v s
  | .rdPicEnable => Sys2Proof.Machine.execRdPicEnable s
  | .wrPicEnable v => Sys2Proof.Machine.execWrPicEnable v s
  | .rdPicPending => Sys2Proof.Machine.execRdPicPending s
  | .wrPicPending v => Sys2Proof.Machine.execWrPicPending v s
  | .rdPicAck => Sys2Proof.Machine.execRdPicAck s
  | .wrPicAck v => Sys2Proof.Machine.execWrPicAck v s
  | .rdPicPrio0 => Sys2Proof.Machine.execRdPicPrio0 s
  | .wrPicPrio0 v => Sys2Proof.Machine.execWrPicPrio0 v s
  | .rdPicPrio1 => Sys2Proof.Machine.execRdPicPrio1 s
  | .wrPicPrio1 v => Sys2Proof.Machine.execWrPicPrio1 v s
  | .rdPicPrio2 => Sys2Proof.Machine.execRdPicPrio2 s
  | .wrPicPrio2 v => Sys2Proof.Machine.execWrPicPrio2 v s
  | .rdPicPrio3 => Sys2Proof.Machine.execRdPicPrio3 s
  | .wrPicPrio3 v => Sys2Proof.Machine.execWrPicPrio3 v s
  | .rdPicPrio4 => Sys2Proof.Machine.execRdPicPrio4 s
  | .wrPicPrio4 v => Sys2Proof.Machine.execWrPicPrio4 v s
  | .rdPicPrio5 => Sys2Proof.Machine.execRdPicPrio5 s
  | .wrPicPrio5 v => Sys2Proof.Machine.execWrPicPrio5 v s
  | .rdPicPrio6 => Sys2Proof.Machine.execRdPicPrio6 s
  | .wrPicPrio6 v => Sys2Proof.Machine.execWrPicPrio6 v s
  | .rdPicPrio7 => Sys2Proof.Machine.execRdPicPrio7 s
  | .wrPicPrio7 v => Sys2Proof.Machine.execWrPicPrio7 v s
  | .rdPicPrio8 => Sys2Proof.Machine.execRdPicPrio8 s
  | .wrPicPrio8 v => Sys2Proof.Machine.execWrPicPrio8 v s
  | .rdPicPrio9 => Sys2Proof.Machine.execRdPicPrio9 s
  | .wrPicPrio9 v => Sys2Proof.Machine.execWrPicPrio9 v s
  | .rdPicPrio10 => Sys2Proof.Machine.execRdPicPrio10 s
  | .wrPicPrio10 v => Sys2Proof.Machine.execWrPicPrio10 v s
  | .rdPicPrio11 => Sys2Proof.Machine.execRdPicPrio11 s
  | .wrPicPrio11 v => Sys2Proof.Machine.execWrPicPrio11 v s
  | .rdPicPrio12 => Sys2Proof.Machine.execRdPicPrio12 s
  | .wrPicPrio12 v => Sys2Proof.Machine.execWrPicPrio12 v s
  | .rdPicPrio13 => Sys2Proof.Machine.execRdPicPrio13 s
  | .wrPicPrio13 v => Sys2Proof.Machine.execWrPicPrio13 v s
  | .rdPicPrio14 => Sys2Proof.Machine.execRdPicPrio14 s
  | .wrPicPrio14 v => Sys2Proof.Machine.execWrPicPrio14 v s
  | .rdPicPrio15 => Sys2Proof.Machine.execRdPicPrio15 s
  | .wrPicPrio15 v => Sys2Proof.Machine.execWrPicPrio15 v s
  | .rdPicPrio16 => Sys2Proof.Machine.execRdPicPrio16 s
  | .wrPicPrio16 v => Sys2Proof.Machine.execWrPicPrio16 v s
  | .rdPicPrio17 => Sys2Proof.Machine.execRdPicPrio17 s
  | .wrPicPrio17 v => Sys2Proof.Machine.execWrPicPrio17 v s
  | .rdPicPrio18 => Sys2Proof.Machine.execRdPicPrio18 s
  | .wrPicPrio18 v => Sys2Proof.Machine.execWrPicPrio18 v s
  | .rdPicPrio19 => Sys2Proof.Machine.execRdPicPrio19 s
  | .wrPicPrio19 v => Sys2Proof.Machine.execWrPicPrio19 v s
  | .rdPicPrio20 => Sys2Proof.Machine.execRdPicPrio20 s
  | .wrPicPrio20 v => Sys2Proof.Machine.execWrPicPrio20 v s
  | .rdPicPrio21 => Sys2Proof.Machine.execRdPicPrio21 s
  | .wrPicPrio21 v => Sys2Proof.Machine.execWrPicPrio21 v s
  | .rdPicPrio22 => Sys2Proof.Machine.execRdPicPrio22 s
  | .wrPicPrio22 v => Sys2Proof.Machine.execWrPicPrio22 v s
  | .rdPicPrio23 => Sys2Proof.Machine.execRdPicPrio23 s
  | .wrPicPrio23 v => Sys2Proof.Machine.execWrPicPrio23 v s
  | .rdPicPrio24 => Sys2Proof.Machine.execRdPicPrio24 s
  | .wrPicPrio24 v => Sys2Proof.Machine.execWrPicPrio24 v s
  | .rdPicPrio25 => Sys2Proof.Machine.execRdPicPrio25 s
  | .wrPicPrio25 v => Sys2Proof.Machine.execWrPicPrio25 v s
  | .rdPicPrio26 => Sys2Proof.Machine.execRdPicPrio26 s
  | .wrPicPrio26 v => Sys2Proof.Machine.execWrPicPrio26 v s
  | .rdPicPrio27 => Sys2Proof.Machine.execRdPicPrio27 s
  | .wrPicPrio27 v => Sys2Proof.Machine.execWrPicPrio27 v s
  | .rdPicPrio28 => Sys2Proof.Machine.execRdPicPrio28 s
  | .wrPicPrio28 v => Sys2Proof.Machine.execWrPicPrio28 v s
  | .rdPicPrio29 => Sys2Proof.Machine.execRdPicPrio29 s
  | .wrPicPrio29 v => Sys2Proof.Machine.execWrPicPrio29 v s
  | .rdPicPrio30 => Sys2Proof.Machine.execRdPicPrio30 s
  | .wrPicPrio30 v => Sys2Proof.Machine.execWrPicPrio30 v s
  | .rdPicPrio31 => Sys2Proof.Machine.execRdPicPrio31 s
  | .wrPicPrio31 v => Sys2Proof.Machine.execWrPicPrio31 v s
  | .rdTmrCtrl => Sys2Proof.Machine.execRdTmrCtrl s
  | .wrTmrCtrl v => Sys2Proof.Machine.execWrTmrCtrl v s
  | .rdTmrCount => Sys2Proof.Machine.execRdTmrCount s
  | .wrTmrCount v => Sys2Proof.Machine.execWrTmrCount v s
  | .rdTmrReload => Sys2Proof.Machine.execRdTmrReload s
  | .wrTmrReload v => Sys2Proof.Machine.execWrTmrReload v s
  | .rdTmrMatch => Sys2Proof.Machine.execRdTmrMatch s
  | .wrTmrMatch v => Sys2Proof.Machine.execWrTmrMatch v s
  | .rdTmrIen => Sys2Proof.Machine.execRdTmrIen s
  | .wrTmrIen v => Sys2Proof.Machine.execWrTmrIen v s
  | .rdTmrIpend => Sys2Proof.Machine.execRdTmrIpend s
  | .wrTmrIpend v => Sys2Proof.Machine.execWrTmrIpend v s
  | .rdTmrIack => Sys2Proof.Machine.execRdTmrIack s
  | .wrTmrIack v => Sys2Proof.Machine.execWrTmrIack v s
  | .picInit => Sys2Proof.Machine.execPicInit s
  | .picRegisterHandler line h => Sys2Proof.Machine.execPicRegisterHandler line h s
  | .picMasterEnable => Sys2Proof.Machine.execPicMasterEnable s
  | .picMasterDisable => Sys2Proof.Machine.execPicMasterDisable s
  | .picEnableInterrupt line => Sys2Proof.Machine.execPicEnableInterrupt line s
  | .picDisableInterrupt line => Sys2Proof.Machine.execPicDisableInterrupt line s
  | .picSetPriority line priority => Sys2Proof.Machine.execPicSetPriority line priority s
  | .picDispatch => Sys2Proof.Machine.execPicDispatch s
  | .tmrSetPrescaler value => Sys2Proof.Machine.execTmrSetPrescaler value s
  | .tmrEnableAutoreload => Sys2Proof.Machine.execTmrEnableAutoreload s
  | .tmrDisableAutoreload => Sys2Proof.Machine.execTmrDisableAutoreload s
  | .tmrEnablePrescaler => Sys2Proof.Machine.execTmrEnablePrescaler s
  | .tmrDisablePrescaler => Sys2Proof.Machine.execTmrDisablePrescaler s
  | .tmrEnableInterrupts => Sys2Proof.Machine.execTmrEnableInterrupts s
  | .tmrDisableInterrupts => Sys2Proof.Machine.execTmrDisableInterrupts s
  | .tmrStart => Sys2Proof.Machine.execTmrStart s
  | .tmrStop => Sys2Proof.Machine.execTmrStop s
  | .tmrSetCounter value => Sys2Proof.Machine.execTmrSetCounter value s
  | .tmrSetReload value => Sys2Proof.Machine.execTmrSetReload value s
  | .tmrSetMatch value => Sys2Proof.Machine.execTmrSetMatch value s
  | .tmrEnableIndividualInterrupts mask => Sys2Proof.Machine.execTmrEnableIndividualInterrupts mask s
  | .tmrGetInterruptsPending => Sys2Proof.Machine.execTmrGetInterruptsPending s
  | .tmrAcknowledgeInterrupts mask => Sys2Proof.Machine.execTmrAcknowledgeInterrupts mask s
  | .evLine n level => Sys2Proof.Machine.execEvLine n level s
  | .evTick => Sys2Proof.Machine.execEvTick s
  | .trapExtIrq epc regs => Sys2Proof.Machine.execTrapExtIrq epc regs s
  | .trapEcallM epc regs => Sys2Proof.Machine.execTrapEcallM epc regs s
  | .trapHaltIrq code epc regs => Sys2Proof.Machine.execTrapHaltIrq code epc regs s
  | .trapHaltExc code epc regs => Sys2Proof.Machine.execTrapHaltExc code epc regs s

end Sys2Proof.Machine
end

