-- ==== Sys2Proof/Machine/Engine.lean ====
section
/-! DEFINITION. The steps of the trap engine: the trap-cause decoder (R221 to R228) and the acknowledge protocol
(R161 to R165). Each is one step; the caller has matched the engine's state. -/

namespace Sys2Proof.Machine

/-- R221, R222, R223: where the decoder goes from a cause word. -/
def decodeCause (cause : Word) : Engine :=
  if cause.getLsbD 31 then
    let code := cause &&& 0x7FFFFFFF#32
    if code = 15#32 then .picRead .trap else .halted (.unknownInterrupt code)
  else if cause = 11#32 then .syscall
  else .halted (.unknownException cause)

/-- R221: the decode step. -/
def engineDecode (s : State) : State :=
  latch { s with engine := decodeCause s.cause }

/-- R161: phase 1 reads STATUS once, captures the line and its slot, and starts the handler. A slot never initialised
faults; the transaction has taken place (V-ACK-5, log 19). -/
def enginePicRead (o : Origin) (s : State) : State :=
  let status := readReg .status s
  let line := lineOfStatus status
  match s.slots[line] with
  | .uninit => recordFault .uninitSlot (memRead .status s)
  | .holds c => latch (emit (.invoke line c) { memRead .status s with engine := .invoking o line c })

/-- R164: the invoked handler has completed; the default handler completes at once, with no transaction. -/
def engineHandlerDone (o : Origin) (line : Fin 32) (s : State) : State :=
  latch { s with engine := .acking o line }

/-- R165: phase 3 writes ACK with the captured line's bit; a trap's dispatch goes on to return `epc` (R224), the host's
is complete. -/
def engineAck (o : Origin) (line : Fin 32) (s : State) : State :=
  let t := memWrite .ack (lineMask line) s
  latch
    (match o with
     | .trap => { t with engine := .returning, resumePc := t.epc }
     | .host => { t with engine := .idle })

/-- R225, R226: the oracle answers `r`, which goes into the return slot; the trap resumes after the call. -/
def engineSyscall (r : Word) (s : State) : State :=
  latch
    (emit (.syscall s.snap r)
      { s with snap := s.snap.set s.params.retReg.val r, resumePc := s.epc + 4#32, engine := .returning })

/-- R225 with the oracle's answer drawn as a free value (log 13). -/
def engineSyscallDraw (s : State) : State :=
  engineSyscall (Config.syscallOracle s.draws s.snap) { s with draws := s.draws + 1 }

end Sys2Proof.Machine
end

