-- ==== Sys2Proof/Machine/Schedule.lean ====
section
/-! DEFINITION. Whose step is next (R8, R290; log 5): the trap engine's own steps, the driver operation in progress, and
the outside's next stimulus. -/

namespace Sys2Proof.Machine

/-- An event of the environment, which may step at any time (R8, R74); every other operation is a program's. -/
def isEnvironment : Instr → Bool
  | .evLine _ _ | .evTick => true
  | .trapExtIrq _ _ | .trapEcallM _ _ | .trapHaltIrq _ _ _ | .trapHaltExc _ _ _ => true
  | _ => false

/-- Whether the engine has a step of its own, or the agent that may issue has a driver operation to finish. -/
def State.internalPending (s : State) : Bool :=
  match s.engine with
  | .idle => s.hostOp.isSome
  | .invoking _ _ (.registered _) => s.handlerOp.isSome
  | .halted _ => false
  | .decode | .picRead _ | .invoking _ _ .defaultHandler | .acking _ _ | .syscall | .returning => true

/-- The second transaction of the driver operation in progress; without one, nothing happens. -/
def finishOp (o : Option InFlight) (s : State) : Result :=
  match o with
  | some g => exec g.op s
  | none => .next s

/-- The block's own next step (R161 to R165, R221 to R227). A registered handler's run, and the wait for the next
operation, are no steps of the block: nothing changes. -/
def internalStep (s : State) : Result :=
  match s.engine with
  | .idle => finishOp s.hostOp s
  | .decode => .next (engineDecode s)
  | .picRead o => .next (enginePicRead o s)
  | .invoking o line .defaultHandler => .next (engineHandlerDone o line s)
  | .invoking _ _ (.registered _) => finishOp s.handlerOp s
  | .acking o line => .next (engineAck o line s)
  | .syscall => .next (engineSyscallDraw s)
  | .returning => .next (trapReturn s)
  | .halted _ => .next s

/-- A program's operation `k` in its turn (R8, R37): it waits for the engine and for the driver operation in progress
(R74), and the host's waits while a handler runs (R160); without a running handler there is none of the handler's. In
`Halted(_)` it is for `k` to say that no operation is admitted. -/
def inTurn (a : Agent) (s : State) (k : Result) : Result :=
  if s.internalPending then internalStep s
  else
    match s.issuer, a with
    | some .handler, .host => .next s
    | some .host, .handler => .refused .noHandlerRunning
    | some .host, .host | some .handler, .handler | none, _ => k

/-- A decoded request: the environment's events step at once, a program's operation in its turn (R74). `rest` are the
stimuli after it. -/
def issue (a : Agent) (i : Instr) (rest : List Stimulus) (s : State) : Result :=
  if isEnvironment i then exec i { s with inputs := rest } else inTurn a s (exec i { s with inputs := rest })

/-- A request that decodes to no operation: an access fault is a program's transaction, the rest is refused (R95). -/
def reject (a : Agent) (r : Reject) (rest : List Stimulus) (s : State) : Result :=
  match r with
  | .access k => inTurn a s (busFault k { s with inputs := rest })
  | .unknownOp _ | .strayBits _ | .missingWord | .trailingWord | .badLevel _ => .refused (.undecodable r)

/-- A handler's completion (R164): it waits while the engine or the handler's driver operation has a step. -/
def completion (rest : List Stimulus) (s : State) : Result :=
  if s.internalPending then internalStep s
  else
    match s.engine with
    | .invoking o line (.registered _) => .next (engineHandlerDone o line { s with inputs := rest })
    | _ => .refused .noHandlerRunning

/-- The syscall oracle's answer (R225): it waits while the engine has another step to take first. -/
def oracleAnswer (v : Word) (rest : List Stimulus) (s : State) : Result :=
  match s.engine with
  | .syscall => .next (engineSyscall v { s with inputs := rest })
  | _ => if s.internalPending then internalStep s else .refused .noSyscallWaiting

/-- One step of the block: the next stimulus, or the block's own step where it comes first. -/
def scheduledStep (s : State) : Result :=
  unfaulted s
    (match s.inputs with
     | [] => internalStep s
     | .turn :: rest => internalStep { s with inputs := rest }
     | .handlerDone :: rest => completion rest s
     | .syscallReturn v :: rest => oracleAnswer v rest s
     | .request a r :: rest =>
       match decode s.params r with
       | .ok i => issue a i rest s
       | .error e => reject a e rest s)

/-- A request placed where the next step takes it, as the operation of the program that may issue one. -/
def placeRequest (r : Request) (s : State) : State :=
  { s with inputs := .request (s.issuer.getD .host) r :: s.inputs }

end Sys2Proof.Machine
end

