-- ==== Sys2Proof/Machine/Step.lean ====
section
/-! DEFINITION. One step of the block, and the placing of an instruction where the next step takes it. -/

namespace Sys2Proof.Machine

/-- One step (R8, R290). -/
def step (s : State) : Host.Outcome State Fault Refusal :=
  scheduledStep s

/-- The instruction with this table word, its operand words zero, placed as the next stimulus (log 10, 16). -/
def State.withFetchWord (s : State) (nbits w : Nat) : State :=
  placeRequest (tableRequest nbits w) s

end Sys2Proof.Machine
end

