-- ==== Sys2Proof/Safety.lean ====
section
/-! DEFINITION. The terms claims are stated in: when an operation runs, the invariant of the block, and how a run ends. -/

namespace Sys2Proof.Machine

/-- The latch has sampled the present input levels, as it has at the end of every step (R121). -/
abbrev Sampled (s : State) : Prop := s.irqPrev = s.irqIn

/-- A program's operation is admitted: no fault is recorded, an agent may issue (R8, R37), and it has no driver operation
in progress (R74). -/
abbrev Ready (s : State) : Prop :=
  s.faults = [] ∧ ∃ a, s.issuer = some a ∧ s.inFlight a = none

/-- The agent that may issue is between the two transactions of `op`, having read `c` (R74). -/
abbrev InProgress (op : Instr) (c : Word) (s : State) : Prop :=
  s.faults = [] ∧ ∃ a, s.issuer = some a ∧ s.inFlight a = some ⟨op, c⟩

/-- The host program may issue an operation that is admitted in `Main` only (R142, R160). -/
abbrev HostReady (s : State) : Prop :=
  s.faults = [] ∧ s.engine = .idle ∧ s.hostOp = none

/-- Neither a fault nor a halt (R240, R242). -/
abbrev Live (s : State) : Prop :=
  s.faults = [] ∧ ∀ r, s.engine ≠ .halted r

/-- The state `u`, reached from a sampled state by a write to the timer, once the latch has seen the timer's output: a
rise of the output pends line 0 (R121, R129, R185). -/
def afterTimerWrite (before u : State) : State :=
  { u with
    pending := if u.timerOut && !before.timerOut then u.pending ||| 1#32 else u.pending
    irqPrev := u.irqLines ++ BitVec.ofBool u.timerOut }

/-- The driver operations of two transactions (R97): the setters that read and write back. An enable or disable of an
out-of-range line issues none (R145, R146). -/
def twoTransactions : Instr → Bool
  | .picMasterEnable | .picMasterDisable => true
  | .picEnableInterrupt line | .picDisableInterrupt line => decide (line.toNat < 32)
  | .tmrSetPrescaler _ => true
  | .tmrEnableAutoreload | .tmrDisableAutoreload | .tmrEnablePrescaler | .tmrDisablePrescaler => true
  | .tmrEnableInterrupts | .tmrDisableInterrupts | .tmrStart | .tmrStop => true
  | _ => false

/-- The PIC driver operations that need `pic.init` first (R141). -/
def needsInit : Instr → Bool
  | .picRegisterHandler _ _ | .picMasterEnable | .picMasterDisable | .picEnableInterrupt _ | .picDisableInterrupt _ => true
  | .picSetPriority _ _ | .picDispatch => true
  | _ => false

/-- A driver operation in progress is one of two transactions, started after `pic.init` if it needs it. -/
abbrev Started (s : State) (g : InFlight) : Prop :=
  twoTransactions g.op = true ∧ (needsInit g.op = true → s.initialised = true)

/-- The origin of the dispatch in progress, if there is one (R36). -/
def State.origin (s : State) : Option Origin :=
  match s.engine with
  | .picRead o | .invoking o _ _ | .acking o _ => some o
  | .idle | .decode | .syscall | .returning | .halted _ => none

/-- What holds in every state a run reaches. -/
structure Inv (s : State) : Prop where
  /-- The latch has sampled the inputs (R121). -/
  sampled : Sampled s
  /-- The parameters are R9's. -/
  legal : s.params.legal = true
  /-- `psc_cnt` is in [0, `PRESCALE_DIV(PSC)` - 1] (R46). -/
  psc : s.pscCnt < s.prescale
  /-- After `init` every slot holds a callback (R33), before it none does (R271). -/
  table : ∀ n : Fin 32, s.slots[n] = .uninit ↔ s.initialised = false
  /-- The host's driver operation in progress. -/
  hostOp : ∀ g, s.hostOp = some g → Started s g
  /-- The handler's driver operation in progress: only a running handler has one. -/
  handlerOp : ∀ g, s.handlerOp = some g → Started s g ∧ s.issuer = some .handler
  /-- The host waits for a dispatch it started (R160). -/
  hostDispatch : s.origin = some .host → s.hostOp = none
  /-- One fault ends the run (R240). -/
  oneFault : s.faults.length ≤ 1
  /-- A trap's dispatch serves cause 0x8000000F (R221). -/
  irqCause : s.origin = some .trap → s.cause = 0x8000000F#32
  /-- The syscall step serves cause 11 (R221). -/
  syscallCause : s.engine = .syscall → s.cause = 11#32
  /-- The resume pc of a trap about to return: `epc` for the interrupt, `epc + 4` for the system call (R224, R226, R228). -/
  resume : s.engine = .returning →
    (s.cause = 0x8000000F#32 ∧ s.resumePc = s.epc) ∨ (s.cause = 11#32 ∧ s.resumePc = s.epc + 4#32)

/-- A driver operation carried to its end: its step, and the second one it has if the first left it in progress (R97). -/
def completeOp (op : Instr) (s : State) : Result :=
  match exec op s with
  | .next t => if twoTransactions op then exec op t else .next t
  | .fault k => .fault k
  | .refused r => .refused r

/-- The block with a control word stored: `psc_cnt` restarts when PSE or PSC changes (R188), and the trace shows the write. -/
def withCtrlWritten (s : State) (v : Word) : State :=
  { s with
    tCtrl := v.setWidth 7
    pscCnt := if v.getLsbD 2 = s.tCtrl.getLsbD 2 ∧ v.extractLsb' 4 3 = s.tCtrl.extractLsb' 4 3 then s.pscCnt else 0
    trace := .write .tCtrl v :: s.trace }

/-- What a read-modify-write setter of T_CTRL does in its two steps, `f` giving the word it writes from the word it read:
the read of T_CTRL, and from every state in which it is in progress (whatever the environment did in between, R74) the
write, after which the operation is complete. -/
def SetterOfCtrl (op : Instr) (f : Word → Word) : Prop :=
  ∀ (s : State) (a : Agent), s.faults = [] → s.issuer = some a → Sampled s →
    (s.inFlight a = none →
      exec op s = .next { s.withOp a (some ⟨op, s.tCtrl.setWidth 32⟩) with
        trace := .read .tCtrl (s.tCtrl.setWidth 32) :: s.trace }) ∧
    (∀ c, s.inFlight a = some ⟨op, c⟩ →
      exec op s = .next (afterTimerWrite s (withCtrlWritten (s.withOp a none) (f c))))

/-- Whether a stimulus is an operation the host program has still to issue. A request that decodes to no operation, and
faults in no access, is none (R95 d). -/
def Stimulus.hostOperation (p : Params) : Stimulus → Bool
  | .request .host r =>
    match decode p r with
    | .ok i => !isEnvironment i
    | .error (.access _) => true
    | .error (.unknownOp _) | .error (.strayBits _) | .error .missingWord | .error .trailingWord | .error (.badLevel _) => false
  | .request .handler _ | .turn | .handlerDone | .syscallReturn _ => false

/-- The host program has issued its last operation (R257), whatever else is left in the queue. -/
def State.hostIssuedLast (s : State) : Bool :=
  s.inputs.all fun x => !x.hostOperation s.params

/-- R257: a run ends well when the host program has issued its last operation and that operation has completed, the engine
is idle, and no fault is recorded. What the environment still does is not asked. -/
abbrev EndsWell (s : State) : Prop :=
  s.hostIssuedLast = true ∧ s.hostOp = none ∧ s.engine = .idle ∧ s.faults = []

/-- R257: a run ends badly when a fault is recorded or the engine is `Halted(_)`. -/
abbrev EndsBadly (s : State) : Prop :=
  s.faults ≠ [] ∨ ∃ r, s.engine = .halted r

/-- R257: a hang is a run that never ends: it goes on from `s` for ever and ends neither well nor badly. -/
def Hangs (s : State) : Prop :=
  ∀ n, ∃ t, Host.Core.run Sys2Proof.core n s = .next t ∧ ¬ EndsWell t ∧ ¬ EndsBadly t

end Sys2Proof.Machine
end

