-- ==== Sys2Proof/Certificates/Slice0/Obligations.lean ====
section
/-! DEFINITION. The statements for the provers. Hypotheses are about the state and the operands; a conclusion
`exec i s = .next …` says where the operation completes and, by what the record update leaves out, its whole frame. The
entries of `trace` are the model's record of the ports (log 8), `hostOp`/`handlerOp`/`withOp` its record of a driver
operation between its two transactions (log 6), `inputs` its queue of stimuli (log 5). -/

open Sys2Proof Sys2Proof.Machine

/-- Decoding the encoding of a well-formed operation gives it back (R82, R83, R84, R93, R94, R96). Model's own choices it
rests on: log 9. -/
def Obligations.DecodeOfEncodeIsInstruction : Prop :=
  ∀ (p : Params) (i : Instr), i.WF → decode p (encode i) = .ok i

/-- A request of words that decodes is the encoding of what it decodes to (R82, R83, R84, R95). Model's own choices it
rests on: log 9. -/
def Obligations.DecodedWordsAreTheEncoding : Prop :=
  ∀ (p : Params) (ws : List Word) (i : Instr),
    (decode p (.busreq ws) = .ok i → encode i = .busreq ws) ∧
    (decode p (.op ws) = .ok i → encode i = .op ws) ∧
    (decode p (.trap ws) = .ok i → encode i = .trap ws)

/-- Code words of the spec, with operand words laid out as the model chooses, decode to the operations they stand for
(R82, R83, R84, 95_test_vectors.md). The order and place of the operand words are the model's choice. Model's own
choices it rests on: log 9. -/
def Obligations.SpecWordsDecode : Prop :=
  ∀ (p : Params) (v w : Word) (regs : Snapshot),
    decode p (.busreq [0b0000101100#32]) = .ok .rdPicPrio7 ∧
    decode p (.busreq [0b1000001100#32, v]) = .ok (.wrPicAck v) ∧
    decode p (.busreq [0b1100011000#32, v]) = .ok (.wrTmrIack v) ∧
    decode p (.op [0b00000101#32, v]) = .ok (.picEnableInterrupt v) ∧
    decode p (.op [0b00000111#32, v, w]) = .ok (.picSetPriority v w) ∧
    decode p (.op [0b00100111#32]) = .ok .tmrStart ∧
    decode p (.op [0b01100000#32, v, 1#32]) = .ok (.evLine v true) ∧
    decode p (.trap (0x8000000F#32 :: v :: regs.toList)) = .ok (.trapExtIrq v regs) ∧
    decode p (.trap (0x0000000B#32 :: v :: regs.toList)) = .ok (.trapEcallM v regs) ∧
    decode p (.trap (0x8000000B#32 :: v :: regs.toList)) = .ok (.trapHaltIrq 11#31 v regs) ∧
    decode p (.trap (0x00000002#32 :: v :: regs.toList)) = .ok (.trapHaltExc 2#31 v regs)

/-- A transaction outside the regions, of a wrong size or unaligned faults, in that order; any other names a register
(R65, R66, R67, R60). The last clause equates two decodings; that they succeed is
`Obligations.DecodeOfEncodeIsInstruction`. Misaligned, and not Unmapped, at offsets 0x8D to 0x8F and 0x19 to 0x1B is
the model's choice. Model's own choices it rests on: log 11. -/
def Obligations.AccessFaultPrecedence : Prop :=
  ∀ (p : Params) (t : BusAccess), p.legal = true →
    let a := t.addr.toNat
    let inside := (p.picBase.toNat ≤ a ∧ a < p.picBase.toNat + 0x90) ∨ (p.timerBase.toNat ≤ a ∧ a < p.timerBase.toNat + 0x1C)
    (¬ inside → decode p (.bus t) = .error (.access .unmapped)) ∧
    (inside → t.size ≠ 4 → decode p (.bus t) = .error (.access .badWidth)) ∧
    (inside → t.size = 4 → a % 4 ≠ 0 → decode p (.bus t) = .error (.access .misaligned)) ∧
    (inside → t.size = 4 → a % 4 = 0 →
      ∃ r : BusReg, t.addr = r.address p ∧
        decode p (.bus t) = decode p (if t.write then encodeWrite r t.data else encodeRead r))

/-- Each register is read and written by word transactions at its address of the two maps (R61, R62, R83). -/
def Obligations.RegistersAnswerAtTheirAddresses : Prop :=
  ∀ (p : Params) (v : Word), p.legal = true →
    let at_ (r : BusReg) (addr : Word) : Prop :=
      decode p (.bus ⟨addr, false, 4, v⟩) = decode p (encodeRead r) ∧
        decode p (.bus ⟨addr, true, 4, v⟩) = decode p (encodeWrite r v)
    at_ .status (p.picBase + 0x00#32) ∧
    at_ .enable (p.picBase + 0x04#32) ∧
    at_ .pending (p.picBase + 0x08#32) ∧
    at_ .ack (p.picBase + 0x0C#32) ∧
    (∀ n : Fin 32, at_ (.prio n) (p.picBase + 0x10#32 + 4#32 * BitVec.ofNat 32 n.val)) ∧
    at_ .tCtrl (p.timerBase + 0x00#32) ∧
    at_ .tCount (p.timerBase + 0x04#32) ∧
    at_ .tReload (p.timerBase + 0x08#32) ∧
    at_ .tMatch (p.timerBase + 0x0C#32) ∧
    at_ .tIen (p.timerBase + 0x10#32) ∧
    at_ .tIpend (p.timerBase + 0x14#32) ∧
    at_ .tIack (p.timerBase + 0x18#32)

/-- A step runs the operation its next stimulus decodes to, a program's in its turn (R8, R74, R290). Model's own choices
it rests on: log 5, 15. -/
def Obligations.StepRunsDecodedInstruction : Prop :=
  ∀ (s : State) (a : Agent) (r : Request) (rest : List Stimulus) (i : Instr),
    s.inputs = .request a r :: rest → decode s.params r = .ok i →
    (isEnvironment i = true ∨ (s.internalPending = false ∧ (s.issuer = some a ∨ s.issuer = none)) →
      step s = exec i { s with inputs := rest }) ∧
    (isEnvironment i = false → s.internalPending = false → s.faults = [] →
      (a = .host → s.issuer = some .handler → step s = .next s) ∧
      (a = .handler → s.issuer = some .host → step s = .refused .noHandlerRunning))

/-- A table word placed in the queue is what the next step runs (R8, R83, R84, R82). Model's own choices it rests on: log
10, 16. -/
def Obligations.PlacedTableWordRunsNext : Prop :=
  ∀ (s : State) (nbits w : Nat) (i : Instr),
    decodeTableWord nbits w = some i → (isEnvironment i = true ∨ s.internalPending = false) →
    step (s.withFetchWord nbits w) = exec i s

/-- The driver operation in progress is finished before its agent's next operation (R74, R97, R8). Model's own choices it
rests on: log 5, 6. -/
def Obligations.StepFinishesDriverOperation : Prop :=
  ∀ (s : State) (a : Agent) (g : InFlight), s.faults = [] → s.issuer = some a → s.inFlight a = some g →
    (s.inputs = [] → step s = exec g.op s) ∧
    (∀ rest, s.inputs = .turn :: rest → step s = exec g.op { s with inputs := rest }) ∧
    (∀ b r rest i, s.inputs = .request b r :: rest → decode s.params r = .ok i → isEnvironment i = false →
      step s = exec g.op s)

/-- A program's transaction that fails its access check records its fault and changes nothing else (R65, R66, R67, R240).
Model's own choices it rests on: log 5, 7. -/
def Obligations.FaultyAccessIsRecorded : Prop :=
  ∀ (s : State) (a : Agent) (r : Request) (rest : List Stimulus),
    s.faults = [] → s.issuer = some a → s.internalPending = false → s.inputs = .request a r :: rest →
    (decode s.params r = .error (.access .unmapped) → step s = .next { s with inputs := rest, faults := [.unmapped] }) ∧
    (decode s.params r = .error (.access .badWidth) → step s = .next { s with inputs := rest, faults := [.badWidth] }) ∧
    (decode s.params r = .error (.access .misaligned) → step s = .next { s with inputs := rest, faults := [.misaligned] })

/-- Once a fault is recorded no operation and no step is admitted (R240, R49, V-MEM-7). Model's own choices it rests on:
log 7. -/
def Obligations.FaultedRunHasNoStep : Prop :=
  ∀ s : State, s.faults ≠ [] → step s = .refused .quiescent ∧ ∀ i : Instr, exec i s = .refused .quiescent

/-- In Halted only input lines and ticks step, and the block stays halted (R242, R220, R36). -/
def Obligations.HaltedBlockOnlySeesEnvironment : Prop :=
  ∀ (s : State) (r : HaltReason), s.faults = [] → s.engine = .halted r →
    (∀ i : Instr, (∀ n b, i ≠ .evLine n b) → i ≠ .evTick → exec i s = .refused .halted) ∧
    (∃ t, exec .evTick s = .next t ∧ t.engine = .halted r) ∧
    (∀ (n : Word) (b : Bool), 1 ≤ n.toNat → n.toNat ≤ 31 → ∃ t, exec (.evLine n b) s = .next t ∧ t.engine = .halted r) ∧
    (∀ t, step s = .next t → t.engine = .halted r)

/-- Every item of the state has its reset value (R271). -/
def Obligations.ResetValues : Prop :=
  State.reset.statusMie = false ∧ State.reset.selLine = 0 ∧ State.reset.statusWord = 0x00000000#32 ∧
    State.reset.enable = 0x00000000#32 ∧ State.reset.pending = 0x00000000#32 ∧
    (∀ n : Fin 32, State.reset.prio[n] = 0#5) ∧ State.reset.irqPrev = 0x00000000#32 ∧ State.reset.irqLines = 0#31 ∧
    State.reset.irqOut = false ∧ State.reset.initialised = false ∧
    (∀ n : Fin 32, State.reset.slots[n] = .uninit) ∧ State.reset.engine = .idle ∧ State.reset.origin = none ∧
    State.reset.context = .main ∧ State.reset.tCtrl = 0#7 ∧ State.reset.tCount = 0x00000000#32 ∧
    State.reset.tReload = 0x00000000#32 ∧ State.reset.tMatch = 0x00000000#32 ∧ State.reset.tIen = 0#2 ∧
    State.reset.tIpend = 0#2 ∧ State.reset.pscCnt = 0 ∧ State.reset.timerOut = false ∧ State.reset.faults = []

/-- The invariant of the block holds at reset (R270, R271, R63). Model's own choices it rests on: log 2. -/
def Obligations.ResetMeetsInvariant : Prop :=
  Inv State.reset

/-- Every step keeps the invariant of the block (R121, R46, R33, R34, R37, R74, R160, R224, R226, R228, R240). -/
def Obligations.StepKeepsInvariant : Prop :=
  ∀ s t : State, Inv s → step s = .next t → Inv t

/-- From a state that meets the invariant, a step without stimuli always answers a next state (R290, R37, R74, R164).
Model's own choices it rests on: log 5. -/
def Obligations.BlockIsNeverStuck : Prop :=
  ∀ s : State, Inv s → s.faults = [] → s.inputs = [] → ∃ t, step s = .next t

/-- Reads of STATUS, ENABLE, PENDING and ACK return their words and change nothing (R101, R103, R105, R108, R69, R100).
Model's own choices it rests on: log 8. -/
def Obligations.PicControlReads : Prop :=
  ∀ s : State, Ready s → Sampled s →
    exec .rdPicStatus s = .next { s with trace := .read .status (((BitVec.ofBool s.statusMie).setWidth 32 <<< s.params.mieBit.val) ||| BitVec.ofNat 32 s.selLine.val) :: s.trace } ∧
    exec .rdPicEnable s = .next { s with trace := .read .enable (s.enable) :: s.trace } ∧
    exec .rdPicPending s = .next { s with trace := .read .pending (s.pending) :: s.trace } ∧
    exec .rdPicAck s = .next { s with trace := .read .ack (0x00000000#32) :: s.trace }

/-- A read of PRIO[n] returns the 5-bit priority, zero-extended, for each of the 32 lines (R109, R29, R69). Model's own
choices it rests on: log 8. -/
def Obligations.PicPriorityReads : Prop :=
  ∀ s : State, Ready s → Sampled s →
    exec .rdPicPrio0 s = .next { s with trace := .read (.prio 0) (s.prio[0].setWidth 32) :: s.trace } ∧
    exec .rdPicPrio1 s = .next { s with trace := .read (.prio 1) (s.prio[1].setWidth 32) :: s.trace } ∧
    exec .rdPicPrio2 s = .next { s with trace := .read (.prio 2) (s.prio[2].setWidth 32) :: s.trace } ∧
    exec .rdPicPrio3 s = .next { s with trace := .read (.prio 3) (s.prio[3].setWidth 32) :: s.trace } ∧
    exec .rdPicPrio4 s = .next { s with trace := .read (.prio 4) (s.prio[4].setWidth 32) :: s.trace } ∧
    exec .rdPicPrio5 s = .next { s with trace := .read (.prio 5) (s.prio[5].setWidth 32) :: s.trace } ∧
    exec .rdPicPrio6 s = .next { s with trace := .read (.prio 6) (s.prio[6].setWidth 32) :: s.trace } ∧
    exec .rdPicPrio7 s = .next { s with trace := .read (.prio 7) (s.prio[7].setWidth 32) :: s.trace } ∧
    exec .rdPicPrio8 s = .next { s with trace := .read (.prio 8) (s.prio[8].setWidth 32) :: s.trace } ∧
    exec .rdPicPrio9 s = .next { s with trace := .read (.prio 9) (s.prio[9].setWidth 32) :: s.trace } ∧
    exec .rdPicPrio10 s = .next { s with trace := .read (.prio 10) (s.prio[10].setWidth 32) :: s.trace } ∧
    exec .rdPicPrio11 s = .next { s with trace := .read (.prio 11) (s.prio[11].setWidth 32) :: s.trace } ∧
    exec .rdPicPrio12 s = .next { s with trace := .read (.prio 12) (s.prio[12].setWidth 32) :: s.trace } ∧
    exec .rdPicPrio13 s = .next { s with trace := .read (.prio 13) (s.prio[13].setWidth 32) :: s.trace } ∧
    exec .rdPicPrio14 s = .next { s with trace := .read (.prio 14) (s.prio[14].setWidth 32) :: s.trace } ∧
    exec .rdPicPrio15 s = .next { s with trace := .read (.prio 15) (s.prio[15].setWidth 32) :: s.trace } ∧
    exec .rdPicPrio16 s = .next { s with trace := .read (.prio 16) (s.prio[16].setWidth 32) :: s.trace } ∧
    exec .rdPicPrio17 s = .next { s with trace := .read (.prio 17) (s.prio[17].setWidth 32) :: s.trace } ∧
    exec .rdPicPrio18 s = .next { s with trace := .read (.prio 18) (s.prio[18].setWidth 32) :: s.trace } ∧
    exec .rdPicPrio19 s = .next { s with trace := .read (.prio 19) (s.prio[19].setWidth 32) :: s.trace } ∧
    exec .rdPicPrio20 s = .next { s with trace := .read (.prio 20) (s.prio[20].setWidth 32) :: s.trace } ∧
    exec .rdPicPrio21 s = .next { s with trace := .read (.prio 21) (s.prio[21].setWidth 32) :: s.trace } ∧
    exec .rdPicPrio22 s = .next { s with trace := .read (.prio 22) (s.prio[22].setWidth 32) :: s.trace } ∧
    exec .rdPicPrio23 s = .next { s with trace := .read (.prio 23) (s.prio[23].setWidth 32) :: s.trace } ∧
    exec .rdPicPrio24 s = .next { s with trace := .read (.prio 24) (s.prio[24].setWidth 32) :: s.trace } ∧
    exec .rdPicPrio25 s = .next { s with trace := .read (.prio 25) (s.prio[25].setWidth 32) :: s.trace } ∧
    exec .rdPicPrio26 s = .next { s with trace := .read (.prio 26) (s.prio[26].setWidth 32) :: s.trace } ∧
    exec .rdPicPrio27 s = .next { s with trace := .read (.prio 27) (s.prio[27].setWidth 32) :: s.trace } ∧
    exec .rdPicPrio28 s = .next { s with trace := .read (.prio 28) (s.prio[28].setWidth 32) :: s.trace } ∧
    exec .rdPicPrio29 s = .next { s with trace := .read (.prio 29) (s.prio[29].setWidth 32) :: s.trace } ∧
    exec .rdPicPrio30 s = .next { s with trace := .read (.prio 30) (s.prio[30].setWidth 32) :: s.trace } ∧
    exec .rdPicPrio31 s = .next { s with trace := .read (.prio 31) (s.prio[31].setWidth 32) :: s.trace }

/-- Writes of STATUS, ENABLE, PENDING and ACK: MIE only, all bits, nothing, write one to clear (R102, R104, R106, R107,
R100, R27). Model's own choices it rests on: log 8. -/
def Obligations.PicControlWrites : Prop :=
  ∀ (s : State) (v : Word), Ready s → Sampled s →
    exec (.wrPicStatus v) s = .next { s with statusMie := v.getLsbD s.params.mieBit.val, trace := .write .status v :: s.trace } ∧
    exec (.wrPicEnable v) s = .next { s with enable := v, trace := .write .enable v :: s.trace } ∧
    exec (.wrPicPending v) s = .next { s with trace := .write .pending v :: s.trace } ∧
    exec (.wrPicAck v) s = .next { s with pending := s.pending &&& ~~~v, trace := .write .ack v :: s.trace }

/-- A write of PRIO[n] stores the low 5 bits, or 31 for any larger value, for each of the 32 lines (R110, R29). Model's
own choices it rests on: log 8. -/
def Obligations.PicPriorityWrites : Prop :=
  ∀ (s : State) (v : Word), Ready s → Sampled s →
    let p : BitVec 5 := if v.toNat > 31 then 31#5 else v.setWidth 5
    exec (.wrPicPrio0 v) s = .next { s with prio := s.prio.set 0 p, trace := .write (.prio 0) v :: s.trace } ∧
    exec (.wrPicPrio1 v) s = .next { s with prio := s.prio.set 1 p, trace := .write (.prio 1) v :: s.trace } ∧
    exec (.wrPicPrio2 v) s = .next { s with prio := s.prio.set 2 p, trace := .write (.prio 2) v :: s.trace } ∧
    exec (.wrPicPrio3 v) s = .next { s with prio := s.prio.set 3 p, trace := .write (.prio 3) v :: s.trace } ∧
    exec (.wrPicPrio4 v) s = .next { s with prio := s.prio.set 4 p, trace := .write (.prio 4) v :: s.trace } ∧
    exec (.wrPicPrio5 v) s = .next { s with prio := s.prio.set 5 p, trace := .write (.prio 5) v :: s.trace } ∧
    exec (.wrPicPrio6 v) s = .next { s with prio := s.prio.set 6 p, trace := .write (.prio 6) v :: s.trace } ∧
    exec (.wrPicPrio7 v) s = .next { s with prio := s.prio.set 7 p, trace := .write (.prio 7) v :: s.trace } ∧
    exec (.wrPicPrio8 v) s = .next { s with prio := s.prio.set 8 p, trace := .write (.prio 8) v :: s.trace } ∧
    exec (.wrPicPrio9 v) s = .next { s with prio := s.prio.set 9 p, trace := .write (.prio 9) v :: s.trace } ∧
    exec (.wrPicPrio10 v) s = .next { s with prio := s.prio.set 10 p, trace := .write (.prio 10) v :: s.trace } ∧
    exec (.wrPicPrio11 v) s = .next { s with prio := s.prio.set 11 p, trace := .write (.prio 11) v :: s.trace } ∧
    exec (.wrPicPrio12 v) s = .next { s with prio := s.prio.set 12 p, trace := .write (.prio 12) v :: s.trace } ∧
    exec (.wrPicPrio13 v) s = .next { s with prio := s.prio.set 13 p, trace := .write (.prio 13) v :: s.trace } ∧
    exec (.wrPicPrio14 v) s = .next { s with prio := s.prio.set 14 p, trace := .write (.prio 14) v :: s.trace } ∧
    exec (.wrPicPrio15 v) s = .next { s with prio := s.prio.set 15 p, trace := .write (.prio 15) v :: s.trace } ∧
    exec (.wrPicPrio16 v) s = .next { s with prio := s.prio.set 16 p, trace := .write (.prio 16) v :: s.trace } ∧
    exec (.wrPicPrio17 v) s = .next { s with prio := s.prio.set 17 p, trace := .write (.prio 17) v :: s.trace } ∧
    exec (.wrPicPrio18 v) s = .next { s with prio := s.prio.set 18 p, trace := .write (.prio 18) v :: s.trace } ∧
    exec (.wrPicPrio19 v) s = .next { s with prio := s.prio.set 19 p, trace := .write (.prio 19) v :: s.trace } ∧
    exec (.wrPicPrio20 v) s = .next { s with prio := s.prio.set 20 p, trace := .write (.prio 20) v :: s.trace } ∧
    exec (.wrPicPrio21 v) s = .next { s with prio := s.prio.set 21 p, trace := .write (.prio 21) v :: s.trace } ∧
    exec (.wrPicPrio22 v) s = .next { s with prio := s.prio.set 22 p, trace := .write (.prio 22) v :: s.trace } ∧
    exec (.wrPicPrio23 v) s = .next { s with prio := s.prio.set 23 p, trace := .write (.prio 23) v :: s.trace } ∧
    exec (.wrPicPrio24 v) s = .next { s with prio := s.prio.set 24 p, trace := .write (.prio 24) v :: s.trace } ∧
    exec (.wrPicPrio25 v) s = .next { s with prio := s.prio.set 25 p, trace := .write (.prio 25) v :: s.trace } ∧
    exec (.wrPicPrio26 v) s = .next { s with prio := s.prio.set 26 p, trace := .write (.prio 26) v :: s.trace } ∧
    exec (.wrPicPrio27 v) s = .next { s with prio := s.prio.set 27 p, trace := .write (.prio 27) v :: s.trace } ∧
    exec (.wrPicPrio28 v) s = .next { s with prio := s.prio.set 28 p, trace := .write (.prio 28) v :: s.trace } ∧
    exec (.wrPicPrio29 v) s = .next { s with prio := s.prio.set 29 p, trace := .write (.prio 29) v :: s.trace } ∧
    exec (.wrPicPrio30 v) s = .next { s with prio := s.prio.set 30 p, trace := .write (.prio 30) v :: s.trace } ∧
    exec (.wrPicPrio31 v) s = .next { s with prio := s.prio.set 31 p, trace := .write (.prio 31) v :: s.trace }

/-- A priority written by any path reads back as min(v, 31), and no other priority changes (R29). -/
def Obligations.PriorityReadsBackClamped : Prop :=
  ∀ (s : State) (n : Fin 32) (v : Word),
    (readReg (.prio n) (writeReg (.prio n) v s)).toNat = min v.toNat 31 ∧
    (BusReg.prio n).offset = 0x10 + 4 * n.val ∧
    State.reset.prio[n] = 0#5 ∧
    writeReg (.prio n) (clampPriority v) s = writeReg (.prio n) v s ∧
    ∀ m : Fin 32, m ≠ n → readReg (.prio m) (writeReg (.prio n) v s) = readReg (.prio m) s

/-- MIE, ENABLE, each PRIO[n], RELOAD, MATCH and IEN change in a step only by a write transaction to that register (R25,
R26, R29, R48, R41, R42, R43, R250, R9). Model's own choices it rests on: log 8. -/
def Obligations.RegistersChangeOnlyByTheirWrite : Prop :=
  ∀ s t : State, step s = .next t →
    t.params = s.params ∧
    (t.statusMie ≠ s.statusMie → ∃ v, t.trace = .write .status v :: s.trace ∧ t.statusMie = v.getLsbD s.params.mieBit.val) ∧
    (t.enable ≠ s.enable → ∃ v, t.trace = .write .enable v :: s.trace ∧ t.enable = v) ∧
    (∀ n : Fin 32, t.prio[n] ≠ s.prio[n] → ∃ v, t.trace = .write (.prio n) v :: s.trace ∧ t.prio[n].toNat = min v.toNat 31) ∧
    (t.tReload ≠ s.tReload → ∃ v, t.trace = .write .tReload v :: s.trace ∧ t.tReload = v) ∧
    (t.tMatch ≠ s.tMatch → ∃ v, t.trace = .write .tMatch v :: s.trace ∧ t.tMatch = v) ∧
    (t.tIen ≠ s.tIen → ∃ v, t.trace = .write .tIen v :: s.trace ∧ t.tIen = v.setWidth 2)

/-- In a step a pending bit rises only by a rising edge and falls only by an ACK write of that bit (R27, R121, R122, R123,
R106). Model's own choices it rests on: log 8. -/
def Obligations.PendingSetByLatchClearedByAck : Prop :=
  ∀ (s t : State) (n : Nat), step s = .next t → n < 32 →
    (s.pending.getLsbD n = false → t.pending.getLsbD n = true → t.irqIn.getLsbD n = true ∧ s.irqPrev.getLsbD n = false) ∧
    (s.pending.getLsbD n = true → t.pending.getLsbD n = false →
      ∃ v, t.trace = .write .ack v :: s.trace ∧ v.getLsbD n = true) ∧
    (Sampled s → t.faults = [] → t.irqIn.getLsbD n = true → s.irqPrev.getLsbD n = false → t.pending.getLsbD n = true)

/-- The selected line is the candidate of best priority, the lowest among equals, and 0 without a candidate (R125, R124). -/
def Obligations.SelectedLineIsBestCandidate : Prop :=
  ∀ s : State,
    let c : Word := s.pending &&& s.enable
    State.reset.params.prioOrder = .higherWins ∧
    (c = 0#32 → s.selLine = 0) ∧
    (c ≠ 0#32 →
      c.getLsbD s.selLine.val = true ∧
      ∀ n : Fin 32, c.getLsbD n.val = true →
        (match s.params.prioOrder with
         | .higherWins => s.prio[n] ≤ s.prio[s.selLine]
         | .lowerWins => s.prio[s.selLine] ≤ s.prio[n]) ∧
        (s.prio[n] = s.prio[s.selLine] → s.selLine ≤ n))

/-- The request to the CPU is 1 exactly when MIE is 1 and some line is pending and enabled (R126). -/
def Obligations.RequestNeedsMasterAndCandidate : Prop :=
  ∀ s : State, s.irqOut = true ↔
    s.statusMie = true ∧ ∃ n : Fin 32, s.pending.getLsbD n.val = true ∧ s.enable.getLsbD n.val = true

/-- The low five bits of STATUS are the selected line, the MIE bit is MIE, and every other bit is 0 (R25, R85, R101). -/
def Obligations.StatusReportsSelectedLine : Prop :=
  ∀ s : State, s.params.legal = true →
    lineOfStatus (readReg .status s) = s.selLine ∧
    (readReg .status s).getLsbD s.params.mieBit.val = s.statusMie ∧
    ∀ k, 5 ≤ k → k ≠ s.params.mieBit.val → (readReg .status s).getLsbD k = false

/-- ev.line drives one line of 1 to 31, latches its rising edge whatever the enables, and is refused on any other line
(R120). -/
def Obligations.LineEventLatchesRisingEdge : Prop :=
  ∀ (s : State) (n : Word) (b : Bool), s.faults = [] → Sampled s →
    (1 ≤ n.toNat → n.toNat ≤ 31 →
      ∃ t, exec (.evLine n b) s = .next t ∧
        (∀ m, m < 32 → t.irqIn.getLsbD m = if m = n.toNat then b else s.irqIn.getLsbD m) ∧
        t.irqPrev = t.irqIn ∧
        (∀ m, m < 32 → t.pending.getLsbD m =
          (s.pending.getLsbD m || (decide (m = n.toNat) && b && !s.irqIn.getLsbD m))) ∧
        t = { s with irqLines := t.irqLines, irqPrev := t.irqPrev, pending := t.pending }) ∧
    (n.toNat = 0 ∨ 31 < n.toNat → exec (.evLine n b) s = .refused .lineNotEnvironment) ∧
    ∃ operands, encode (.evLine n b) = .op (0x60#32 :: operands)

/-- pic.init makes every slot the default handler and sets initialised; in a trap it faults (R140). -/
def Obligations.InitFillsTable : Prop :=
  ∀ s : State,
    encode .picInit = .op [0x01#32] ∧
    (HostReady s → Sampled s →
      exec .picInit s = .next { s with slots := Vector.replicate 32 (.holds .defaultHandler), initialised := true }) ∧
    (s.faults = [] → s.context = .trap → exec .picInit s = .next { s with faults := [.tableWriteInTrap] })

/-- pic.register_handler writes the slot of an in-range line, ignores any other line, and faults before init and in a trap
(R142). -/
def Obligations.RegisterHandlerWritesOneSlot : Prop :=
  ∀ (s : State) (line : Word) (h : HandlerId),
    (∃ operands, encode (.picRegisterHandler line h) = .op (0x02#32 :: operands)) ∧
    (Live s → s.initialised = false → exec (.picRegisterHandler line h) s = .next { s with faults := [.preInit] }) ∧
    (s.faults = [] → s.initialised = true → s.context = .trap →
      exec (.picRegisterHandler line h) s = .next { s with faults := [.tableWriteInTrap] }) ∧
    (HostReady s → Sampled s → s.initialised = true →
      (∀ hl : line.toNat < 32, exec (.picRegisterHandler line h) s =
        .next { s with slots := s.slots.set line.toNat (.holds (.registered h)) }) ∧
      (32 ≤ line.toNat → exec (.picRegisterHandler line h) s = .next s))

/-- pic.master_enable and pic.master_disable read STATUS and write it back with MIE set or cleared, two steps (R143, R144,
R74). Model's own choices it rests on: log 6, 8. -/
def Obligations.MasterEnableAndDisable : Prop :=
  ∀ (s : State) (a : Agent), s.faults = [] → s.issuer = some a → s.initialised = true → Sampled s →
    (s.inFlight a = none → exec .picMasterEnable s =
        .next { s.withOp a (some ⟨.picMasterEnable, s.statusWord⟩) with trace := .read .status s.statusWord :: s.trace }) ∧
    (∀ c, s.inFlight a = some ⟨.picMasterEnable, c⟩ → exec .picMasterEnable s =
        .next { s.withOp a none with statusMie := true, trace := .write .status (c ||| (1#32 <<< s.params.mieBit.val)) :: s.trace }) ∧
    (s.inFlight a = none → exec .picMasterDisable s =
        .next { s.withOp a (some ⟨.picMasterDisable, s.statusWord⟩) with trace := .read .status s.statusWord :: s.trace }) ∧
    (∀ c, s.inFlight a = some ⟨.picMasterDisable, c⟩ → exec .picMasterDisable s =
        .next { s.withOp a none with statusMie := false, trace := .write .status (c &&& ~~~(1#32 <<< s.params.mieBit.val)) :: s.trace })

/-- pic.enable_interrupt and pic.disable_interrupt set and clear one bit of ENABLE by read-modify-write, two steps (R145,
R146, R86, R74). Model's own choices it rests on: log 6, 8. -/
def Obligations.EnableAndDisableInterrupt : Prop :=
  ∀ (s : State) (a : Agent) (line : Word), s.faults = [] → s.issuer = some a → s.initialised = true → Sampled s →
    line.toNat < 32 →
    (s.inFlight a = none → exec (.picEnableInterrupt line) s =
        .next { s.withOp a (some ⟨(.picEnableInterrupt line), s.enable⟩) with trace := .read .enable s.enable :: s.trace }) ∧
    (∀ c, s.inFlight a = some ⟨(.picEnableInterrupt line), c⟩ → exec (.picEnableInterrupt line) s =
        .next { s.withOp a none with enable := c ||| (1#32 <<< line.toNat), trace := .write .enable (c ||| (1#32 <<< line.toNat)) :: s.trace }) ∧
    (s.inFlight a = none → exec (.picDisableInterrupt line) s =
        .next { s.withOp a (some ⟨(.picDisableInterrupt line), s.enable⟩) with trace := .read .enable s.enable :: s.trace }) ∧
    (∀ c, s.inFlight a = some ⟨(.picDisableInterrupt line), c⟩ → exec (.picDisableInterrupt line) s =
        .next { s.withOp a none with enable := c &&& ~~~(1#32 <<< line.toNat), trace := .write .enable (c &&& ~~~(1#32 <<< line.toNat)) :: s.trace })

/-- pic.set_priority writes the clamped priority of an in-range line in one write and ignores any other line (R147, R87).
Model's own choices it rests on: log 8. -/
def Obligations.SetPriorityWritesClamped : Prop :=
  ∀ (s : State) (line priority : Word), Ready s → Sampled s → s.initialised = true →
    (∀ hl : line.toNat < 32, exec (.picSetPriority line priority) s =
      .next { s with
        prio := s.prio.set line.toNat (BitVec.ofNat 5 (min priority.toNat 31))
        trace := .write (.prio ⟨line.toNat, hl⟩) (BitVec.ofNat 32 (min priority.toNat 31)) :: s.trace }) ∧
    (32 ≤ line.toNat → exec (.picSetPriority line priority) s = .next s)

/-- Every PIC driver operation but pic.init records PreInit before pic.init and does nothing (R141). -/
def Obligations.PreInitFault : Prop :=
  ∀ (s : State) (line x : Word) (h : HandlerId), s.initialised = false →
    (Live s → ∀ i ∈ [Instr.picRegisterHandler line h, .picMasterEnable, .picMasterDisable, .picEnableInterrupt line,
        .picDisableInterrupt line, .picSetPriority line x, .picDispatch],
      exec i s = .next { s with faults := [.preInit] }) ∧
    (Ready s → ∀ (i : Instr) (r : BusReg), encode i = encodeRead r ∨ encode i = encodeWrite r x →
      ∃ t, exec i s = .next t ∧ t.faults = [])

/-- register_handler, enable_interrupt, disable_interrupt and set_priority do nothing for a line of 32 or more (R148). -/
def Obligations.OutOfRangeLinesAreIgnored : Prop :=
  ∀ (s : State) (line x : Word), Sampled s → s.initialised = true → 32 ≤ line.toNat →
    (HostReady s → exec (.picRegisterHandler line x) s = .next s) ∧
    (Ready s → exec (.picEnableInterrupt line) s = .next s ∧ exec (.picDisableInterrupt line) s = .next s ∧
      exec (.picSetPriority line x) s = .next s)

/-- Running a setter twice leaves every register as running it once does (R149, R200). Model's own choices it rests on:
log 8. -/
def Obligations.DriverOperationsAreIdempotent : Prop :=
  ∀ (s : State) (line p : Word), Ready s → Sampled s → s.initialised = true →
    let twice (op : Instr) : Prop :=
      ∃ t u, completeOp op s = .next t ∧ completeOp op t = .next u ∧ u = { t with trace := u.trace }
    twice .picMasterEnable ∧ twice .picMasterDisable ∧ twice (.picEnableInterrupt line) ∧
    twice (.picDisableInterrupt line) ∧ twice (.picSetPriority line p) ∧ twice .tmrStart ∧ twice .tmrStop ∧
    (HostReady s → twice .picInit)

/-- In a step the handler table changes only by the host's init or register_handler, outside any trap (R35, R34, R142,
R140, R75). Model's own choices it rests on: log 5, 15. -/
def Obligations.HandlerTableIsWrittenByHostOnly : Prop :=
  ∀ s t : State, step s = .next t →
    (s.initialised = true → t.initialised = true) ∧
    (t.slots ≠ s.slots → s.context = .main ∧ s.engine = .idle ∧ s.hostOp = none ∧
      ∃ (r : Request) (rest : List Stimulus), s.inputs = .request .host r :: rest ∧
        ((decode s.params r = .ok .picInit ∧ t.initialised = true ∧ ∀ n : Fin 32, t.slots[n] = .holds .defaultHandler) ∨
         (s.initialised = true ∧ ∃ (line : Word) (n : Fin 32) (h : HandlerId), line.toNat = n.val ∧
            decode s.params r = .ok (.picRegisterHandler line h) ∧ t.slots = s.slots.set n (.holds (.registered h)))))

/-- pic.dispatch starts the engine for the host when Idle, faults when the engine is busy, and needs init (R160, R141,
R221). -/
def Obligations.DispatchEntry : Prop :=
  ∀ s : State, Live s →
    (s.initialised = false → exec .picDispatch s = .next { s with faults := [.preInit] }) ∧
    (s.initialised = true → s.engine ≠ .idle → exec .picDispatch s = .next { s with faults := [.nestedDispatch] }) ∧
    (s.initialised = true → s.engine = .idle → s.hostOp = none → Sampled s →
      exec .picDispatch s = .next { s with engine := .picRead .host } ∧
      ({ s with engine := .picRead .host } : State).context = .trap) ∧
    (s.engine = .decode → s.cause = 0x8000000F#32 → Sampled s → s.inputs = [] →
      step s = .next { s with engine := .picRead .trap })

/-- Phase 1 reads STATUS, captures the selected line and its slot, and starts its handler; an Uninit slot faults (R161,
R162, R85, R168). Model's own choices it rests on: log 8, 19. -/
def Obligations.DispatchReadsStatusOnce : Prop :=
  ∀ (s : State) (o : Origin), s.faults = [] → s.inputs = [] → s.engine = .picRead o → s.params.legal = true → Sampled s →
    (∀ c, s.slots[s.selLine] = .holds c →
      step s = .next { s with
        engine := .invoking o s.selLine c
        trace := .invoke s.selLine c :: .read .status s.statusWord :: s.trace }) ∧
    (s.slots[s.selLine] = .uninit →
      step s = .next { s with faults := [.uninitSlot], trace := .read .status s.statusWord :: s.trace })

/-- The default handler completes in one step; a registered one leaves the engine waiting until it signals completion
(R164). -/
def Obligations.HandlerRunsToCompletion : Prop :=
  ∀ (s : State) (o : Origin) (line : Fin 32), s.faults = [] → Sampled s →
    (s.engine = .invoking o line .defaultHandler → s.inputs = [] → step s = .next { s with engine := .acking o line }) ∧
    (∀ h rest, s.engine = .invoking o line (.registered h) → s.handlerOp = none →
      (s.inputs = [] → step s = .next s) ∧
      (s.inputs = .handlerDone :: rest → step s = .next { s with engine := .acking o line, inputs := rest }))

/-- Phase 3 writes ACK with the captured line's bit, then a trap's dispatch returns to epc and the host's is complete
(R165, R224, R86). Model's own choices it rests on: log 8. -/
def Obligations.AcknowledgeClearsCapturedLine : Prop :=
  ∀ (s : State) (line : Fin 32), s.faults = [] → s.inputs = [] → Sampled s →
    (s.engine = .acking .trap line →
      step s = .next { s with
        engine := .returning, resumePc := s.epc, pending := s.pending &&& ~~~(1#32 <<< line.val)
        trace := .write .ack (1#32 <<< line.val) :: s.trace }) ∧
    (s.engine = .acking .host line →
      step s = .next { s with
        engine := .idle, pending := s.pending &&& ~~~(1#32 <<< line.val)
        trace := .write .ack (1#32 <<< line.val) :: s.trace })

/-- Whatever happens during a handler, the line invoked is the line acknowledged, once (R163, R166, R128, R170). -/
def Obligations.CapturedLineIsAcknowledged : Prop :=
  ∀ s t : State, step s = .next t →
    (∀ o line c, s.engine = .invoking o line c →
      t.engine = .invoking o line c ∨ (t.engine = .acking o line ∧ t.trace = s.trace)) ∧
    (∀ o line, s.engine = .acking o line →
      (t.engine = .acking o line ∧ t.trace = s.trace) ∨
      (t.trace = .write .ack (1#32 <<< line.val) :: s.trace ∧
        t.engine = (match o with | .trap => .returning | .host => .idle)))

/-- An interrupt trap served by the default handler invokes it once, acknowledges once and resumes at epc (R167, R170,
R165, R227). Model's own choices it rests on: log 8. -/
def Obligations.DefaultDispatchRunsOnce : Prop :=
  ∀ s : State, s.faults = [] → s.inputs = [] → s.engine = .decode → s.cause = 0x8000000F#32 → s.params.legal = true →
    Sampled s → s.slots[s.selLine] = .holds .defaultHandler →
    Host.Core.run Sys2Proof.core 5 s = .next { s with
      engine := .idle, resumePc := s.epc, pending := s.pending &&& ~~~(1#32 <<< s.selLine.val)
      trace := .trapReturn s.epc s.snap :: .write .ack (1#32 <<< s.selLine.val) :: .invoke s.selLine .defaultHandler ::
        .read .status s.statusWord :: s.trace }

/-- pic.dispatch served by the default handler invokes it once, acknowledges once and leaves the block idle (R160, R167,
R170, R165, R161). Model's own choices it rests on: log 8. -/
def Obligations.HostDispatchRunsOnce : Prop :=
  ∀ s : State, HostReady s → s.initialised = true → s.inputs = [] → s.params.legal = true → Sampled s →
    s.slots[s.selLine] = .holds .defaultHandler →
    ∃ t, exec .picDispatch s = .next t ∧
      Host.Core.run Sys2Proof.core 3 t = .next { s with
        pending := s.pending &&& ~~~(1#32 <<< s.selLine.val)
        trace := .write .ack (1#32 <<< s.selLine.val) :: .invoke s.selLine .defaultHandler ::
          .read .status s.statusWord :: s.trace }

/-- ev.tick counts through the prescaler, overflows past 0xFFFFFFFF and compares after the count (R180, R181). -/
def Obligations.TickCounts : Prop :=
  ∀ s : State, s.faults = [] → Sampled s →
    let psc := if s.tCtrl.getLsbD 2 then 0 else s.pscCnt
    let effective := s.tCtrl.getLsbD 0 = true ∧ (s.tCtrl.getLsbD 2 = true → s.pscCnt + 1 = s.prescale)
    let matched (c : Word) : BitVec 2 := if c = s.tMatch then 0b10#2 else 0b00#2
    encode .evTick = .op [0x61#32] ∧ State.reset.params.prescaleDiv[0] = 1 ∧
    (s.tCtrl.getLsbD 0 = false → exec .evTick s = .next s) ∧
    (s.tCtrl.getLsbD 0 = true → s.tCtrl.getLsbD 2 = true → s.pscCnt + 1 ≠ s.prescale →
      exec .evTick s = .next { s with pscCnt := s.pscCnt + 1 }) ∧
    (effective → s.tCount ≠ 0xFFFFFFFF#32 →
      exec .evTick s = .next (afterTimerWrite s { s with
        pscCnt := psc, tCount := s.tCount + 1#32, tIpend := s.tIpend ||| matched (s.tCount + 1#32) })) ∧
    (effective → s.tCount = 0xFFFFFFFF#32 → s.tCtrl.getLsbD 3 = true →
      exec .evTick s = .next (afterTimerWrite s { s with
        pscCnt := psc, tCount := s.tReload, tIpend := s.tIpend ||| 0b01#2 ||| matched s.tReload })) ∧
    (effective → s.tCount = 0xFFFFFFFF#32 → s.tCtrl.getLsbD 3 = false →
      exec .evTick s = .next (afterTimerWrite s { s with
        pscCnt := psc, tCount := 0#32, tCtrl := s.tCtrl &&& 0b1111110#7, tIpend := s.tIpend ||| 0b01#2 ||| matched 0#32 }))

/-- With the prescaler on, PRESCALE_DIV(PSC) ticks from psc_cnt = 0 make exactly one effective count (R180, R184, R46). -/
def Obligations.PrescalerDividesTicks : Prop :=
  ∀ s : State, s.start = true → s.pse = true → s.pscCnt = 0 → 1 ≤ s.prescale →
    (∀ k, k < s.prescale → timerTick^[k] s = { s with pscCnt := k }) ∧
    timerTick^[s.prescale] s = countStep s

/-- An overflow sets IPEND[0] and reloads or stops; with RELOAD = -N and autoreload the timer overflows every N counts
(R182). -/
def Obligations.AutoreloadPeriod : Prop :=
  (∀ s : State, s.tCount = 0xFFFFFFFF#32 →
      (countStep s).tIpend.getLsbD 0 = true ∧
      (s.are = true → (countStep s).tCount = s.tReload ∧ (countStep s).tCtrl = s.tCtrl) ∧
      (s.are = false → (countStep s).tCount = 0#32 ∧ (countStep s).tCtrl = s.tCtrl &&& 0b1111110#7)) ∧
  (∀ (s : State) (n : Nat), s.are = true → 1 ≤ n → n ≤ 2 ^ 32 → s.tCount = BitVec.ofNat 32 (2 ^ 32 - n) →
      s.tReload = s.tCount →
      (∀ k, k < n →
        (countStep^[k] s).tCount = BitVec.ofNat 32 (2 ^ 32 - n + k) ∧
        (countStep^[k] s).tIpend.getLsbD 0 = s.tIpend.getLsbD 0) ∧
      (countStep^[n] s).tCount = s.tReload ∧ (countStep^[n] s).tIpend.getLsbD 0 = true)

/-- Timer reads return CTRL, COUNT, RELOAD, MATCH, IEN, IPEND and 0 for IACK, and change nothing (R187, R189, R191, R192,
R193, R194, R195, R203, R69). Model's own choices it rests on: log 8. -/
def Obligations.TimerReads : Prop :=
  ∀ s : State, Ready s → Sampled s →
    exec .rdTmrCtrl s = .next { s with trace := .read .tCtrl (s.tCtrl.setWidth 32) :: s.trace } ∧
    exec .rdTmrCount s = .next { s with trace := .read .tCount (s.tCount) :: s.trace } ∧
    exec .rdTmrReload s = .next { s with trace := .read .tReload (s.tReload) :: s.trace } ∧
    exec .rdTmrMatch s = .next { s with trace := .read .tMatch (s.tMatch) :: s.trace } ∧
    exec .rdTmrIen s = .next { s with trace := .read .tIen (s.tIen.setWidth 32) :: s.trace } ∧
    exec .rdTmrIpend s = .next { s with trace := .read .tIpend (s.tIpend.setWidth 32) :: s.trace } ∧
    exec .rdTmrIack s = .next { s with trace := .read .tIack (0x00000000#32) :: s.trace } ∧
    exec .tmrGetInterruptsPending s = .next { s with trace := .read .tIpend (s.tIpend.setWidth 32) :: s.trace }

/-- Writes of COUNT, RELOAD and MATCH overwrite one register and raise no event; a write of IPEND is ignored (R190, R191,
R192, R194, R201). Model's own choices it rests on: log 8. -/
def Obligations.TimerValueWrites : Prop :=
  ∀ (s : State) (v : Word), Ready s → Sampled s →
    exec (.wrTmrCount v) s = .next { s with tCount := v, trace := .write .tCount v :: s.trace } ∧
    exec (.tmrSetCounter v) s = .next { s with tCount := v, trace := .write .tCount v :: s.trace } ∧
    exec (.wrTmrReload v) s = .next { s with tReload := v, trace := .write .tReload v :: s.trace } ∧
    exec (.tmrSetReload v) s = .next { s with tReload := v, trace := .write .tReload v :: s.trace } ∧
    exec (.wrTmrMatch v) s = .next { s with tMatch := v, trace := .write .tMatch v :: s.trace } ∧
    exec (.tmrSetMatch v) s = .next { s with tMatch := v, trace := .write .tMatch v :: s.trace } ∧
    exec (.wrTmrIpend v) s = .next { s with trace := .write .tIpend v :: s.trace }

/-- Writes of IEN store two bits, writes of IACK clear the IPEND bits they set, and line 0 follows the timer output (R193,
R195, R202, R204, R185, R186). Model's own choices it rests on: log 8. -/
def Obligations.TimerInterruptWrites : Prop :=
  ∀ (s : State) (v : Word), Ready s → Sampled s →
    exec (.wrTmrIen v) s =
      .next (afterTimerWrite s { s with tIen := v.setWidth 2, trace := .write .tIen v :: s.trace }) ∧
    exec (.tmrEnableIndividualInterrupts v) s =
      .next (afterTimerWrite s { s with tIen := v.setWidth 2, trace := .write .tIen v :: s.trace }) ∧
    exec (.wrTmrIack v) s =
      .next (afterTimerWrite s { s with tIpend := s.tIpend &&& ~~~(v.setWidth 2), trace := .write .tIack v :: s.trace }) ∧
    exec (.tmrAcknowledgeInterrupts v) s =
      .next (afterTimerWrite s { s with tIpend := s.tIpend &&& ~~~(v.setWidth 2), trace := .write .tIack v :: s.trace })

/-- A write of CTRL stores bits 6:0, restarts psc_cnt when PSE or PSC changes, and raises no event (R188, R39, R185).
Model's own choices it rests on: log 8. -/
def Obligations.TimerControlWrite : Prop :=
  ∀ (s : State) (v : Word), Ready s → Sampled s →
    exec (.wrTmrCtrl v) s = .next (afterTimerWrite s (withCtrlWritten s v))

/-- The eight single-bit setters read T_CTRL and write it back with their one bit set or cleared, two steps (R197, R198,
R199, R200, R74). Model's own choices it rests on: log 6, 8. -/
def Obligations.TimerBitSetters : Prop :=
  SetterOfCtrl .tmrEnableAutoreload (fun c => c ||| 0x00000008#32) ∧
  SetterOfCtrl .tmrDisableAutoreload (fun c => c &&& 0xFFFFFFF7#32) ∧
  SetterOfCtrl .tmrEnablePrescaler (fun c => c ||| 0x00000004#32) ∧
  SetterOfCtrl .tmrDisablePrescaler (fun c => c &&& 0xFFFFFFFB#32) ∧
  SetterOfCtrl .tmrEnableInterrupts (fun c => c ||| 0x00000002#32) ∧
  SetterOfCtrl .tmrDisableInterrupts (fun c => c &&& 0xFFFFFFFD#32) ∧
  SetterOfCtrl .tmrStart (fun c => c ||| 0x00000001#32) ∧
  SetterOfCtrl .tmrStop (fun c => c &&& 0xFFFFFFFE#32)

/-- tmr.set_prescaler reads T_CTRL and writes it back with bits 6:4 replaced by the low three bits of its operand, two
steps (R196, R90, R74). Model's own choices it rests on: log 6, 8. -/
def Obligations.SetPrescalerWritesField : Prop :=
  ∀ value : Word, SetterOfCtrl (.tmrSetPrescaler value) (fun c => (c &&& ~~~0x70#32) ||| ((value &&& 0x7#32) <<< 4))

/-- Each setter of T_CTRL, run to its end with nothing in between, changes only its own bits (R205, R196, R197, R198,
R199, R200). -/
def Obligations.ControlSettersKeepOtherBits : Prop :=
  ∀ (s : State) (value : Word), Ready s → Sampled s →
    let only (op : Instr) (own : Nat → Option Bool) : Prop :=
      ∃ t, completeOp op s = .next t ∧ ∀ k, k < 7 → t.tCtrl.getLsbD k = (own k).getD (s.tCtrl.getLsbD k)
    let bit (j : Nat) (b : Bool) : Nat → Option Bool := fun k => if k = j then some b else none
    only (.tmrSetPrescaler value) (fun k => if 4 ≤ k then some (value.getLsbD (k - 4)) else none) ∧
    only .tmrEnableAutoreload (bit 3 true) ∧ only .tmrDisableAutoreload (bit 3 false) ∧
    only .tmrEnablePrescaler (bit 2 true) ∧ only .tmrDisablePrescaler (bit 2 false) ∧
    only .tmrEnableInterrupts (bit 1 true) ∧ only .tmrDisableInterrupts (bit 1 false) ∧
    only .tmrStart (bit 0 true) ∧ only .tmrStop (bit 0 false)

/-- Input line 0 is IE and a source pending and enabled, and falls only by a write of IACK, IEN or CTRL (R185, R129).
Model's own choices it rests on: log 8. -/
def Obligations.TimerOutputGates : Prop :=
  ∀ s : State,
    (s.irqIn.getLsbD 0 = true ↔
      s.tCtrl.getLsbD 1 = true ∧ ((s.tIpend.getLsbD 0 = true ∧ s.tIen.getLsbD 0 = true) ∨
        (s.tIpend.getLsbD 1 = true ∧ s.tIen.getLsbD 1 = true))) ∧
    ∀ t, step s = .next t → s.irqIn.getLsbD 0 = true → t.irqIn.getLsbD 0 = false →
      ∃ v, t.trace = .write .tIack v :: s.trace ∨ t.trace = .write .tIen v :: s.trace ∨ t.trace = .write .tCtrl v :: s.trace

/-- A trap presented in Idle saves cause, epc and snapshot and enters the decoder; in service it faults, in Halted it is
refused (R220). -/
def Obligations.TrapPresentationSavesDescriptor : Prop :=
  ∀ (s : State) (epc : Word) (regs : Snapshot) (code : BitVec 31), s.faults = [] →
    (s.engine = .idle → Sampled s →
      exec (.trapExtIrq epc regs) s = .next { s with cause := 0x8000000F#32, epc := epc, snap := regs, engine := .decode } ∧
      exec (.trapEcallM epc regs) s = .next { s with cause := 0x0000000B#32, epc := epc, snap := regs, engine := .decode } ∧
      exec (.trapHaltIrq code epc regs) s = .next { s with cause := 1#1 ++ code, epc := epc, snap := regs, engine := .decode } ∧
      exec (.trapHaltExc code epc regs) s = .next { s with cause := 0#1 ++ code, epc := epc, snap := regs, engine := .decode } ∧
      ({ s with engine := .decode } : State).context = .trap) ∧
    (∀ i ∈ [Instr.trapExtIrq epc regs, .trapEcallM epc regs, .trapHaltIrq code epc regs, .trapHaltExc code epc regs],
      (s.context = .trap → exec i s = .next { s with faults := [.nestedTrap] }) ∧
      (∀ r, s.engine = .halted r → exec i s = .refused .halted))

/-- The decoder routes 0x8000000F to a dispatch and 11 to the system call, and halts on every other cause word (R221). -/
def Obligations.DecoderClassifiesCause : Prop :=
  ∀ s : State, s.faults = [] → s.inputs = [] → s.engine = .decode → Sampled s →
    (s.cause = 0x8000000F#32 → step s = .next { s with engine := .picRead .trap }) ∧
    (s.cause.getLsbD 31 = true → s.cause ≠ 0x8000000F#32 →
      step s = .next { s with engine := .halted (.unknownInterrupt (s.cause &&& 0x7FFFFFFF#32)) }) ∧
    (s.cause = 11#32 → step s = .next { s with engine := .syscall }) ∧
    (s.cause.getLsbD 31 = false → s.cause ≠ 11#32 → step s = .next { s with engine := .halted (.unknownException s.cause) })

/-- The system call writes only the return slot with the oracle's answer and resumes at epc + 4 (R225, R226). Model's own
choices it rests on: log 5, 8, 13. -/
def Obligations.SyscallWritesReturnSlot : Prop :=
  ∀ s : State, s.faults = [] → s.engine = .syscall → Sampled s →
    let answered (r : Word) : State := { s with
      snap := s.snap.set s.params.retReg r, resumePc := s.epc + 4#32, engine := .returning
      trace := .syscall s.snap r :: s.trace }
    (∀ r rest, s.inputs = .syscallReturn r :: rest → step s = .next { answered r with inputs := rest }) ∧
    (s.inputs = [] → ∃ r, step s = .next { answered r with draws := s.draws + 1 })

/-- The return step puts out resume_pc and the snapshot and makes the engine idle, touching no register (R227, R230,
R250). Model's own choices it rests on: log 8. -/
def Obligations.TrapReturnPutsOutResumePc : Prop :=
  ∀ s : State, s.faults = [] → s.inputs = [] → s.engine = .returning → Sampled s →
    step s = .next { s with engine := .idle, trace := .trapReturn s.resumePc s.snap :: s.trace } ∧
    ({ s with engine := .idle } : State).context = .main

/-- A system-call trap presented in Idle ends in Idle at epc + 4 with the return slot written and no device touched (R220,
R221, R225, R226, R227). Model's own choices it rests on: log 5, 8. -/
def Obligations.SyscallTrapRoundTrip : Prop :=
  ∀ (s : State) (epc r : Word) (regs : Snapshot), s.faults = [] → s.engine = .idle → s.inputs = [] → Sampled s →
    ∃ t, exec (.trapEcallM epc regs) { s with inputs := [.syscallReturn r] } = .next t ∧
      Host.Core.run Sys2Proof.core 3 t = .next { s with
        cause := 11#32, epc := epc, snap := regs.set s.params.retReg r, resumePc := epc + 4#32
        trace := .trapReturn (epc + 4#32) (regs.set s.params.retReg r) :: .syscall regs r :: s.trace }

/-- A trap returns to epc, or to epc + 4 exactly when it was the system call (R228, R224, R226, R227, R24). Model's own
choices it rests on: log 8. -/
def Obligations.ResumePcAdvancesOnlyOnSyscall : Prop :=
  ∀ (s t : State) (pc : Word) (regs : Snapshot), Inv s → step s = .next t →
    t.trace = .trapReturn pc regs :: s.trace →
    (s.cause = 0x8000000F#32 ∧ pc = s.epc) ∨ (s.cause = 11#32 ∧ pc = s.epc + 4#32)

/-- No step changes the trap descriptor but its presentation and the system call, nor a suspended host operation (R229,
R249, R250, R23, R8, R74). -/
def Obligations.TrapServiceFrame : Prop :=
  ∀ s t : State, step s = .next t →
    (t.cause ≠ s.cause ∨ t.epc ≠ s.epc → s.engine = .idle ∧ t.engine = .decode) ∧
    (t.snap ≠ s.snap → (s.engine = .idle ∧ t.engine = .decode) ∨
      (s.engine = .syscall ∧ t.engine = .returning ∧ ∃ r, t.snap = s.snap.set s.params.retReg r)) ∧
    (s.engine ≠ .idle → t.hostOp = s.hostOp)
end

