-- ==== Sys2Proof/Laws/State.lean ====
section
/-! SUPPORT. One lemma per field for each named update of the state, and the derived signals that see only some fields. -/

namespace Sys2Proof.Machine

variable (s : State)

/-! ### latch -/

@[simp] theorem latch_params : (latch s).params = s.params := rfl
@[simp] theorem latch_statusMie : (latch s).statusMie = s.statusMie := rfl
@[simp] theorem latch_enable : (latch s).enable = s.enable := rfl
@[simp] theorem latch_pending : (latch s).pending = s.pending ||| (s.irqIn &&& ~~~s.irqPrev) := rfl
@[simp] theorem latch_prio : (latch s).prio = s.prio := rfl
@[simp] theorem latch_irqPrev : (latch s).irqPrev = s.irqIn := rfl
@[simp] theorem latch_irqLines : (latch s).irqLines = s.irqLines := rfl
@[simp] theorem latch_initialised : (latch s).initialised = s.initialised := rfl
@[simp] theorem latch_slots : (latch s).slots = s.slots := rfl
@[simp] theorem latch_engine : (latch s).engine = s.engine := rfl
@[simp] theorem latch_cause : (latch s).cause = s.cause := rfl
@[simp] theorem latch_epc : (latch s).epc = s.epc := rfl
@[simp] theorem latch_snap : (latch s).snap = s.snap := rfl
@[simp] theorem latch_resumePc : (latch s).resumePc = s.resumePc := rfl
@[simp] theorem latch_tCtrl : (latch s).tCtrl = s.tCtrl := rfl
@[simp] theorem latch_tCount : (latch s).tCount = s.tCount := rfl
@[simp] theorem latch_tReload : (latch s).tReload = s.tReload := rfl
@[simp] theorem latch_tMatch : (latch s).tMatch = s.tMatch := rfl
@[simp] theorem latch_tIen : (latch s).tIen = s.tIen := rfl
@[simp] theorem latch_tIpend : (latch s).tIpend = s.tIpend := rfl
@[simp] theorem latch_pscCnt : (latch s).pscCnt = s.pscCnt := rfl
@[simp] theorem latch_hostOp : (latch s).hostOp = s.hostOp := rfl
@[simp] theorem latch_handlerOp : (latch s).handlerOp = s.handlerOp := rfl
@[simp] theorem latch_faults : (latch s).faults = s.faults := rfl
@[simp] theorem latch_draws : (latch s).draws = s.draws := rfl
@[simp] theorem latch_inputs : (latch s).inputs = s.inputs := rfl
@[simp] theorem latch_trace : (latch s).trace = s.trace := rfl

/-! ### emit -/

@[simp] theorem emit_params (e : PortEvent) : (emit e s).params = s.params := rfl
@[simp] theorem emit_statusMie (e : PortEvent) : (emit e s).statusMie = s.statusMie := rfl
@[simp] theorem emit_enable (e : PortEvent) : (emit e s).enable = s.enable := rfl
@[simp] theorem emit_pending (e : PortEvent) : (emit e s).pending = s.pending := rfl
@[simp] theorem emit_prio (e : PortEvent) : (emit e s).prio = s.prio := rfl
@[simp] theorem emit_irqPrev (e : PortEvent) : (emit e s).irqPrev = s.irqPrev := rfl
@[simp] theorem emit_irqLines (e : PortEvent) : (emit e s).irqLines = s.irqLines := rfl
@[simp] theorem emit_initialised (e : PortEvent) : (emit e s).initialised = s.initialised := rfl
@[simp] theorem emit_slots (e : PortEvent) : (emit e s).slots = s.slots := rfl
@[simp] theorem emit_engine (e : PortEvent) : (emit e s).engine = s.engine := rfl
@[simp] theorem emit_cause (e : PortEvent) : (emit e s).cause = s.cause := rfl
@[simp] theorem emit_epc (e : PortEvent) : (emit e s).epc = s.epc := rfl
@[simp] theorem emit_snap (e : PortEvent) : (emit e s).snap = s.snap := rfl
@[simp] theorem emit_resumePc (e : PortEvent) : (emit e s).resumePc = s.resumePc := rfl
@[simp] theorem emit_tCtrl (e : PortEvent) : (emit e s).tCtrl = s.tCtrl := rfl
@[simp] theorem emit_tCount (e : PortEvent) : (emit e s).tCount = s.tCount := rfl
@[simp] theorem emit_tReload (e : PortEvent) : (emit e s).tReload = s.tReload := rfl
@[simp] theorem emit_tMatch (e : PortEvent) : (emit e s).tMatch = s.tMatch := rfl
@[simp] theorem emit_tIen (e : PortEvent) : (emit e s).tIen = s.tIen := rfl
@[simp] theorem emit_tIpend (e : PortEvent) : (emit e s).tIpend = s.tIpend := rfl
@[simp] theorem emit_pscCnt (e : PortEvent) : (emit e s).pscCnt = s.pscCnt := rfl
@[simp] theorem emit_hostOp (e : PortEvent) : (emit e s).hostOp = s.hostOp := rfl
@[simp] theorem emit_handlerOp (e : PortEvent) : (emit e s).handlerOp = s.handlerOp := rfl
@[simp] theorem emit_faults (e : PortEvent) : (emit e s).faults = s.faults := rfl
@[simp] theorem emit_draws (e : PortEvent) : (emit e s).draws = s.draws := rfl
@[simp] theorem emit_inputs (e : PortEvent) : (emit e s).inputs = s.inputs := rfl
@[simp] theorem emit_trace (e : PortEvent) : (emit e s).trace = e :: s.trace := rfl

/-! ### memRead -/

@[simp] theorem memRead_params (r : BusReg) : (memRead r s).params = s.params := rfl
@[simp] theorem memRead_statusMie (r : BusReg) : (memRead r s).statusMie = s.statusMie := rfl
@[simp] theorem memRead_enable (r : BusReg) : (memRead r s).enable = s.enable := rfl
@[simp] theorem memRead_pending (r : BusReg) : (memRead r s).pending = s.pending := rfl
@[simp] theorem memRead_prio (r : BusReg) : (memRead r s).prio = s.prio := rfl
@[simp] theorem memRead_irqPrev (r : BusReg) : (memRead r s).irqPrev = s.irqPrev := rfl
@[simp] theorem memRead_irqLines (r : BusReg) : (memRead r s).irqLines = s.irqLines := rfl
@[simp] theorem memRead_initialised (r : BusReg) : (memRead r s).initialised = s.initialised := rfl
@[simp] theorem memRead_slots (r : BusReg) : (memRead r s).slots = s.slots := rfl
@[simp] theorem memRead_engine (r : BusReg) : (memRead r s).engine = s.engine := rfl
@[simp] theorem memRead_cause (r : BusReg) : (memRead r s).cause = s.cause := rfl
@[simp] theorem memRead_epc (r : BusReg) : (memRead r s).epc = s.epc := rfl
@[simp] theorem memRead_snap (r : BusReg) : (memRead r s).snap = s.snap := rfl
@[simp] theorem memRead_resumePc (r : BusReg) : (memRead r s).resumePc = s.resumePc := rfl
@[simp] theorem memRead_tCtrl (r : BusReg) : (memRead r s).tCtrl = s.tCtrl := rfl
@[simp] theorem memRead_tCount (r : BusReg) : (memRead r s).tCount = s.tCount := rfl
@[simp] theorem memRead_tReload (r : BusReg) : (memRead r s).tReload = s.tReload := rfl
@[simp] theorem memRead_tMatch (r : BusReg) : (memRead r s).tMatch = s.tMatch := rfl
@[simp] theorem memRead_tIen (r : BusReg) : (memRead r s).tIen = s.tIen := rfl
@[simp] theorem memRead_tIpend (r : BusReg) : (memRead r s).tIpend = s.tIpend := rfl
@[simp] theorem memRead_pscCnt (r : BusReg) : (memRead r s).pscCnt = s.pscCnt := rfl
@[simp] theorem memRead_hostOp (r : BusReg) : (memRead r s).hostOp = s.hostOp := rfl
@[simp] theorem memRead_handlerOp (r : BusReg) : (memRead r s).handlerOp = s.handlerOp := rfl
@[simp] theorem memRead_faults (r : BusReg) : (memRead r s).faults = s.faults := rfl
@[simp] theorem memRead_draws (r : BusReg) : (memRead r s).draws = s.draws := rfl
@[simp] theorem memRead_inputs (r : BusReg) : (memRead r s).inputs = s.inputs := rfl
@[simp] theorem memRead_trace (r : BusReg) : (memRead r s).trace = .read r (readReg r s) :: s.trace := rfl

/-! ### recordFault -/

@[simp] theorem recordFault_params (k : Fault) : (recordFault k s).params = s.params := rfl
@[simp] theorem recordFault_statusMie (k : Fault) : (recordFault k s).statusMie = s.statusMie := rfl
@[simp] theorem recordFault_enable (k : Fault) : (recordFault k s).enable = s.enable := rfl
@[simp] theorem recordFault_pending (k : Fault) : (recordFault k s).pending = s.pending := rfl
@[simp] theorem recordFault_prio (k : Fault) : (recordFault k s).prio = s.prio := rfl
@[simp] theorem recordFault_irqPrev (k : Fault) : (recordFault k s).irqPrev = s.irqPrev := rfl
@[simp] theorem recordFault_irqLines (k : Fault) : (recordFault k s).irqLines = s.irqLines := rfl
@[simp] theorem recordFault_initialised (k : Fault) : (recordFault k s).initialised = s.initialised := rfl
@[simp] theorem recordFault_slots (k : Fault) : (recordFault k s).slots = s.slots := rfl
@[simp] theorem recordFault_engine (k : Fault) : (recordFault k s).engine = s.engine := rfl
@[simp] theorem recordFault_cause (k : Fault) : (recordFault k s).cause = s.cause := rfl
@[simp] theorem recordFault_epc (k : Fault) : (recordFault k s).epc = s.epc := rfl
@[simp] theorem recordFault_snap (k : Fault) : (recordFault k s).snap = s.snap := rfl
@[simp] theorem recordFault_resumePc (k : Fault) : (recordFault k s).resumePc = s.resumePc := rfl
@[simp] theorem recordFault_tCtrl (k : Fault) : (recordFault k s).tCtrl = s.tCtrl := rfl
@[simp] theorem recordFault_tCount (k : Fault) : (recordFault k s).tCount = s.tCount := rfl
@[simp] theorem recordFault_tReload (k : Fault) : (recordFault k s).tReload = s.tReload := rfl
@[simp] theorem recordFault_tMatch (k : Fault) : (recordFault k s).tMatch = s.tMatch := rfl
@[simp] theorem recordFault_tIen (k : Fault) : (recordFault k s).tIen = s.tIen := rfl
@[simp] theorem recordFault_tIpend (k : Fault) : (recordFault k s).tIpend = s.tIpend := rfl
@[simp] theorem recordFault_pscCnt (k : Fault) : (recordFault k s).pscCnt = s.pscCnt := rfl
@[simp] theorem recordFault_hostOp (k : Fault) : (recordFault k s).hostOp = s.hostOp := rfl
@[simp] theorem recordFault_handlerOp (k : Fault) : (recordFault k s).handlerOp = s.handlerOp := rfl
@[simp] theorem recordFault_faults (k : Fault) : (recordFault k s).faults = if k ∈ s.faults then s.faults else k :: s.faults := rfl
@[simp] theorem recordFault_draws (k : Fault) : (recordFault k s).draws = s.draws := rfl
@[simp] theorem recordFault_inputs (k : Fault) : (recordFault k s).inputs = s.inputs := rfl
@[simp] theorem recordFault_trace (k : Fault) : (recordFault k s).trace = s.trace := rfl

/-! ### withOp -/

@[simp] theorem withOp_params (a : Agent) (x : Option InFlight) : (s.withOp a x).params = s.params := by cases a <;> rfl
@[simp] theorem withOp_statusMie (a : Agent) (x : Option InFlight) : (s.withOp a x).statusMie = s.statusMie := by cases a <;> rfl
@[simp] theorem withOp_enable (a : Agent) (x : Option InFlight) : (s.withOp a x).enable = s.enable := by cases a <;> rfl
@[simp] theorem withOp_pending (a : Agent) (x : Option InFlight) : (s.withOp a x).pending = s.pending := by cases a <;> rfl
@[simp] theorem withOp_prio (a : Agent) (x : Option InFlight) : (s.withOp a x).prio = s.prio := by cases a <;> rfl
@[simp] theorem withOp_irqPrev (a : Agent) (x : Option InFlight) : (s.withOp a x).irqPrev = s.irqPrev := by cases a <;> rfl
@[simp] theorem withOp_irqLines (a : Agent) (x : Option InFlight) : (s.withOp a x).irqLines = s.irqLines := by cases a <;> rfl
@[simp] theorem withOp_initialised (a : Agent) (x : Option InFlight) : (s.withOp a x).initialised = s.initialised := by cases a <;> rfl
@[simp] theorem withOp_slots (a : Agent) (x : Option InFlight) : (s.withOp a x).slots = s.slots := by cases a <;> rfl
@[simp] theorem withOp_engine (a : Agent) (x : Option InFlight) : (s.withOp a x).engine = s.engine := by cases a <;> rfl
@[simp] theorem withOp_cause (a : Agent) (x : Option InFlight) : (s.withOp a x).cause = s.cause := by cases a <;> rfl
@[simp] theorem withOp_epc (a : Agent) (x : Option InFlight) : (s.withOp a x).epc = s.epc := by cases a <;> rfl
@[simp] theorem withOp_snap (a : Agent) (x : Option InFlight) : (s.withOp a x).snap = s.snap := by cases a <;> rfl
@[simp] theorem withOp_resumePc (a : Agent) (x : Option InFlight) : (s.withOp a x).resumePc = s.resumePc := by cases a <;> rfl
@[simp] theorem withOp_tCtrl (a : Agent) (x : Option InFlight) : (s.withOp a x).tCtrl = s.tCtrl := by cases a <;> rfl
@[simp] theorem withOp_tCount (a : Agent) (x : Option InFlight) : (s.withOp a x).tCount = s.tCount := by cases a <;> rfl
@[simp] theorem withOp_tReload (a : Agent) (x : Option InFlight) : (s.withOp a x).tReload = s.tReload := by cases a <;> rfl
@[simp] theorem withOp_tMatch (a : Agent) (x : Option InFlight) : (s.withOp a x).tMatch = s.tMatch := by cases a <;> rfl
@[simp] theorem withOp_tIen (a : Agent) (x : Option InFlight) : (s.withOp a x).tIen = s.tIen := by cases a <;> rfl
@[simp] theorem withOp_tIpend (a : Agent) (x : Option InFlight) : (s.withOp a x).tIpend = s.tIpend := by cases a <;> rfl
@[simp] theorem withOp_pscCnt (a : Agent) (x : Option InFlight) : (s.withOp a x).pscCnt = s.pscCnt := by cases a <;> rfl
@[simp] theorem withOp_faults (a : Agent) (x : Option InFlight) : (s.withOp a x).faults = s.faults := by cases a <;> rfl
@[simp] theorem withOp_draws (a : Agent) (x : Option InFlight) : (s.withOp a x).draws = s.draws := by cases a <;> rfl
@[simp] theorem withOp_inputs (a : Agent) (x : Option InFlight) : (s.withOp a x).inputs = s.inputs := by cases a <;> rfl
@[simp] theorem withOp_trace (a : Agent) (x : Option InFlight) : (s.withOp a x).trace = s.trace := by cases a <;> rfl

@[simp] theorem withOp_host (x : Option InFlight) : s.withOp .host x = { s with hostOp := x } := rfl
@[simp] theorem withOp_handler (x : Option InFlight) : s.withOp .handler x = { s with handlerOp := x } := rfl

/-! ### What no bus write touches -/

@[simp] theorem writeReg_params (r : BusReg) (v : Word) : (writeReg r v s).params = s.params := by
  cases r <;> rfl
@[simp] theorem writeReg_irqPrev (r : BusReg) (v : Word) : (writeReg r v s).irqPrev = s.irqPrev := by
  cases r <;> rfl
@[simp] theorem writeReg_irqLines (r : BusReg) (v : Word) : (writeReg r v s).irqLines = s.irqLines := by
  cases r <;> rfl
@[simp] theorem writeReg_initialised (r : BusReg) (v : Word) : (writeReg r v s).initialised = s.initialised := by
  cases r <;> rfl
@[simp] theorem writeReg_slots (r : BusReg) (v : Word) : (writeReg r v s).slots = s.slots := by
  cases r <;> rfl
@[simp] theorem writeReg_engine (r : BusReg) (v : Word) : (writeReg r v s).engine = s.engine := by
  cases r <;> rfl
@[simp] theorem writeReg_cause (r : BusReg) (v : Word) : (writeReg r v s).cause = s.cause := by
  cases r <;> rfl
@[simp] theorem writeReg_epc (r : BusReg) (v : Word) : (writeReg r v s).epc = s.epc := by
  cases r <;> rfl
@[simp] theorem writeReg_snap (r : BusReg) (v : Word) : (writeReg r v s).snap = s.snap := by
  cases r <;> rfl
@[simp] theorem writeReg_resumePc (r : BusReg) (v : Word) : (writeReg r v s).resumePc = s.resumePc := by
  cases r <;> rfl
@[simp] theorem writeReg_hostOp (r : BusReg) (v : Word) : (writeReg r v s).hostOp = s.hostOp := by
  cases r <;> rfl
@[simp] theorem writeReg_handlerOp (r : BusReg) (v : Word) : (writeReg r v s).handlerOp = s.handlerOp := by
  cases r <;> rfl
@[simp] theorem writeReg_faults (r : BusReg) (v : Word) : (writeReg r v s).faults = s.faults := by
  cases r <;> rfl
@[simp] theorem writeReg_draws (r : BusReg) (v : Word) : (writeReg r v s).draws = s.draws := by
  cases r <;> rfl
@[simp] theorem writeReg_inputs (r : BusReg) (v : Word) : (writeReg r v s).inputs = s.inputs := by
  cases r <;> rfl
@[simp] theorem writeReg_trace (r : BusReg) (v : Word) : (writeReg r v s).trace = s.trace := by
  cases r <;> rfl

/-! ### memWrite -/

@[simp] theorem memWrite_params (r : BusReg) (v : Word) : (memWrite r v s).params = s.params := by simp [memWrite]
@[simp] theorem memWrite_statusMie (r : BusReg) (v : Word) : (memWrite r v s).statusMie = (writeReg r v s).statusMie := by simp [memWrite]
@[simp] theorem memWrite_enable (r : BusReg) (v : Word) : (memWrite r v s).enable = (writeReg r v s).enable := by simp [memWrite]
@[simp] theorem memWrite_pending (r : BusReg) (v : Word) : (memWrite r v s).pending = (writeReg r v s).pending := by simp [memWrite]
@[simp] theorem memWrite_prio (r : BusReg) (v : Word) : (memWrite r v s).prio = (writeReg r v s).prio := by simp [memWrite]
@[simp] theorem memWrite_irqPrev (r : BusReg) (v : Word) : (memWrite r v s).irqPrev = s.irqPrev := by simp [memWrite]
@[simp] theorem memWrite_irqLines (r : BusReg) (v : Word) : (memWrite r v s).irqLines = s.irqLines := by simp [memWrite]
@[simp] theorem memWrite_initialised (r : BusReg) (v : Word) : (memWrite r v s).initialised = s.initialised := by simp [memWrite]
@[simp] theorem memWrite_slots (r : BusReg) (v : Word) : (memWrite r v s).slots = s.slots := by simp [memWrite]
@[simp] theorem memWrite_engine (r : BusReg) (v : Word) : (memWrite r v s).engine = s.engine := by simp [memWrite]
@[simp] theorem memWrite_cause (r : BusReg) (v : Word) : (memWrite r v s).cause = s.cause := by simp [memWrite]
@[simp] theorem memWrite_epc (r : BusReg) (v : Word) : (memWrite r v s).epc = s.epc := by simp [memWrite]
@[simp] theorem memWrite_snap (r : BusReg) (v : Word) : (memWrite r v s).snap = s.snap := by simp [memWrite]
@[simp] theorem memWrite_resumePc (r : BusReg) (v : Word) : (memWrite r v s).resumePc = s.resumePc := by simp [memWrite]
@[simp] theorem memWrite_tCtrl (r : BusReg) (v : Word) : (memWrite r v s).tCtrl = (writeReg r v s).tCtrl := by simp [memWrite]
@[simp] theorem memWrite_tCount (r : BusReg) (v : Word) : (memWrite r v s).tCount = (writeReg r v s).tCount := by simp [memWrite]
@[simp] theorem memWrite_tReload (r : BusReg) (v : Word) : (memWrite r v s).tReload = (writeReg r v s).tReload := by simp [memWrite]
@[simp] theorem memWrite_tMatch (r : BusReg) (v : Word) : (memWrite r v s).tMatch = (writeReg r v s).tMatch := by simp [memWrite]
@[simp] theorem memWrite_tIen (r : BusReg) (v : Word) : (memWrite r v s).tIen = (writeReg r v s).tIen := by simp [memWrite]
@[simp] theorem memWrite_tIpend (r : BusReg) (v : Word) : (memWrite r v s).tIpend = (writeReg r v s).tIpend := by simp [memWrite]
@[simp] theorem memWrite_pscCnt (r : BusReg) (v : Word) : (memWrite r v s).pscCnt = (writeReg r v s).pscCnt := by simp [memWrite]
@[simp] theorem memWrite_hostOp (r : BusReg) (v : Word) : (memWrite r v s).hostOp = s.hostOp := by simp [memWrite]
@[simp] theorem memWrite_handlerOp (r : BusReg) (v : Word) : (memWrite r v s).handlerOp = s.handlerOp := by simp [memWrite]
@[simp] theorem memWrite_faults (r : BusReg) (v : Word) : (memWrite r v s).faults = s.faults := by simp [memWrite]
@[simp] theorem memWrite_draws (r : BusReg) (v : Word) : (memWrite r v s).draws = s.draws := by simp [memWrite]
@[simp] theorem memWrite_inputs (r : BusReg) (v : Word) : (memWrite r v s).inputs = s.inputs := by simp [memWrite]
@[simp] theorem memWrite_trace (r : BusReg) (v : Word) : (memWrite r v s).trace = .write r v :: s.trace := by simp [memWrite]

/-! ### Derived signals -/

@[simp] theorem latch_timerOut : (latch s).timerOut = s.timerOut := rfl
@[simp] theorem latch_irqIn : (latch s).irqIn = s.irqIn := rfl
@[simp] theorem latch_issuer : (latch s).issuer = s.issuer := rfl
@[simp] theorem latch_context : (latch s).context = s.context := rfl
@[simp] theorem latch_origin : (latch s).origin = s.origin := rfl
@[simp] theorem latch_prescale : (latch s).prescale = s.prescale := rfl
@[simp] theorem memRead_timerOut (r : BusReg) : (memRead r s).timerOut = s.timerOut := rfl
@[simp] theorem memRead_irqIn (r : BusReg) : (memRead r s).irqIn = s.irqIn := rfl
@[simp] theorem recordFault_irqIn (k : Fault) : (recordFault k s).irqIn = s.irqIn := rfl

/-- Two states with the same timer registers and lines have the same inputs. -/
theorem irqIn_congr {s t : State} (hl : t.irqLines = s.irqLines) (ho : t.timerOut = s.timerOut) : t.irqIn = s.irqIn := by
  unfold State.irqIn; rw [hl, ho]

/-- The timer's output is a function of T_CTRL, T_IPEND and T_IEN. -/
theorem timerOut_congr {s t : State} (hc : t.tCtrl = s.tCtrl) (hp : t.tIpend = s.tIpend) (he : t.tIen = s.tIen) :
    t.timerOut = s.timerOut := by
  unfold State.timerOut State.timerIe; rw [hc, hp, he]

end Sys2Proof.Machine
end

