-- ==== Sys2Proof/Laws/Ops.lean ====
section
/-! SUPPORT. One lemma per shared operation that says everything it can do, and the admitted case of each. -/

namespace Sys2Proof.Machine

variable {s t : State}

/-! ### The latch -/

theorem latch_of_sampled (h : Sampled s) : latch s = s := by
  have hp : s.pending ||| (s.irqIn &&& ~~~s.irqPrev) = s.pending := by
    rw [h]; simp
  unfold latch
  rw [hp, ← h]

theorem sampled_latch (s : State) : Sampled (latch s) := rfl

/-- Sampling again changes nothing. -/
theorem latch_latch (s : State) : latch (latch s) = latch s :=
  latch_of_sampled (sampled_latch s)

/-- A step that leaves the lines and the timer's registers alone leaves a sampled state sampled. -/
theorem latch_of_irqIn_eq (h : Sampled s) (hp : t.irqPrev = s.irqPrev) (hi : t.irqIn = s.irqIn) : latch t = t :=
  latch_of_sampled (by rw [Sampled, hp, hi]; exact h)

/-- Two words that differ in the timer's line only: the rising edges among them. -/
theorem lines_rising (l : BitVec 31) (a b : Bool) :
    ((l ++ BitVec.ofBool a : Word) &&& ~~~(l ++ BitVec.ofBool b : Word)) = if a && !b then 1#32 else 0#32 := by
  have bit : ∀ (c : Bool) (k : Nat), (l ++ BitVec.ofBool c : Word).getLsbD k = if k = 0 then c else l.getLsbD (k - 1) := by
    intro c k
    refine (BitVec.getLsbD_append (x := l) (y := BitVec.ofBool c)).trans ?_
    cases k <;> simp
  apply BitVec.eq_of_getLsbD_eq
  intro k hk
  rw [BitVec.getLsbD_and, BitVec.getLsbD_not, bit, bit]
  cases k <;> cases a <;> cases b <;> simp_all

/-- From a sampled state, the latch sees a write or a count of the timer on line 0 only. -/
theorem latch_timer (hs : Sampled s) (hp : t.irqPrev = s.irqPrev) (hl : t.irqLines = s.irqLines) :
    latch t = afterTimerWrite s t := by
  unfold latch afterTimerWrite
  rw [hp, hs]
  unfold State.irqIn
  rw [hl, lines_rising]
  split <;> simp

/-! ### Legal parameters (R9, R63) -/

theorem legal_bounds {p : Params} (h : p.legal = true) :
    p.picBase.toNat % 4 = 0 ∧ p.timerBase.toNat % 4 = 0 ∧ p.picBase.toNat + 0x90 ≤ 2 ^ 32 ∧
      p.timerBase.toNat + 0x1C ≤ 2 ^ 32 ∧
      (p.picBase.toNat + 0x90 ≤ p.timerBase.toNat ∨ p.timerBase.toNat + 0x1C ≤ p.picBase.toNat) := by
  simp only [Params.legal, Config.basesLegal, Bool.and_eq_true, Bool.or_eq_true, decide_eq_true_eq, beq_iff_eq] at h
  obtain ⟨⟨⟨⟨⟨⟨h1, h2⟩, h3⟩, h4⟩, h5⟩, -⟩, -⟩ := h
  exact ⟨h1, h2, h3, h4, h5⟩

theorem legal_mieBit {p : Params} (h : p.legal = true) : 5 ≤ p.mieBit.val := by
  simp only [Params.legal, Bool.and_eq_true, decide_eq_true_eq] at h
  exact h.1.2

theorem legal_prescale {p : Params} (h : p.legal = true) (k : Nat) (hk : k < 8) : 1 ≤ p.prescaleDiv[k] := by
  simp only [Params.legal, Bool.and_eq_true, List.all_eq_true, decide_eq_true_eq] at h
  exact h.2 _ (by simp)

/-! ### Admission -/

theorem unfaulted_next {k : Result} (h : unfaulted s k = .next t) : s.faults = [] ∧ k = .next t := by
  unfold unfaulted at h
  split at h
  · exact ⟨‹_›, h⟩
  · cases h

theorem unhalted_next {k : Result} (h : unhalted s k = .next t) :
    s.faults = [] ∧ (∀ r, s.engine ≠ .halted r) ∧ k = .next t := by
  obtain ⟨hf, h⟩ := unfaulted_next h
  split at h
  · cases h
  · next hn => exact ⟨hf, fun r hr => hn r hr, h⟩

theorem unfaulted_clear {k : Result} (h : s.faults = []) : unfaulted s k = k := by
  unfold unfaulted; rw [h]

theorem unhalted_live {k : Result} (h : Live s) : unhalted s k = k := by
  unfold unhalted
  rw [unfaulted_clear h.1]
  split
  · next r hr => exact absurd hr (h.2 r)
  · rfl

theorem unfaulted_faulted {k : Result} (h : s.faults ≠ []) : unfaulted s k = .refused .quiescent := by
  unfold unfaulted
  split
  · next e => exact absurd e h
  · rfl

theorem unhalted_faulted {k : Result} (h : s.faults ≠ []) : unhalted s k = .refused .quiescent :=
  unfaulted_faulted h

theorem unhalted_halted {k : Result} {r : HaltReason} (hf : s.faults = []) (h : s.engine = .halted r) :
    unhalted s k = .refused .halted := by
  unfold unhalted
  rw [unfaulted_clear hf, h]

/-- Whoever may issue, the block has not halted. -/
theorem live_of_issuer {a : Agent} (hf : s.faults = []) (h : s.issuer = some a) : Live s :=
  ⟨hf, fun r hr => by simp [State.issuer, hr] at h⟩

theorem live_of_idle (hf : s.faults = []) (h : s.engine = .idle) : Live s :=
  ⟨hf, fun r hr => by rw [h] at hr; cases hr⟩

theorem byIssuer_next {k : Agent → Result} (h : byIssuer s k = .next t) :
    s.faults = [] ∧ ∃ a, s.issuer = some a ∧ k a = .next t := by
  obtain ⟨hf, -, h⟩ := unhalted_next h
  split at h
  · cases h
  · next a ha => exact ⟨hf, a, ha, h⟩

theorem byIssuer_some {k : Agent → Result} {a : Agent} (hf : s.faults = []) (h : s.issuer = some a) :
    byIssuer s k = k a := by
  unfold byIssuer
  rw [unhalted_live (live_of_issuer hf h), h]

/-! ### One-step operations -/

theorem oneStep_next {f : State → State} (h : oneStep f s = .next t) :
    (s.faults = [] ∧ ∃ a, s.issuer = some a ∧ s.inFlight a = none) ∧ t = latch (f s) := by
  obtain ⟨hf, a, ha, h⟩ := byIssuer_next h
  split at h
  · next hn => cases h; exact ⟨⟨hf, a, ha, hn⟩, rfl⟩
  · cases h

theorem oneStep_ready {f : State → State} (h : Ready s) : oneStep f s = .next (latch (f s)) := by
  obtain ⟨hf, a, ha, hn⟩ := h
  unfold oneStep
  rw [byIssuer_some hf ha]
  simp only [hn]

/-- A read transaction of an admitted program, the inputs being sampled. -/
theorem busRead_ready {r : BusReg} (h : Ready s) (hs : Sampled s) : busRead r s = .next (memRead r s) := by
  unfold busRead
  rw [oneStep_ready h, latch_of_irqIn_eq (t := memRead r s) hs rfl rfl]

/-- A write transaction of an admitted program that does not move the timer's output. -/
theorem busWrite_ready {r : BusReg} {v : Word} (h : Ready s) (hs : Sampled s) (hi : (writeReg r v s).irqIn = s.irqIn) :
    busWrite r v s = .next (memWrite r v s) := by
  unfold busWrite
  rw [oneStep_ready h, latch_of_irqIn_eq (t := memWrite r v s) hs (by simp) hi]

/-- A write transaction of an admitted program. -/
theorem busWrite_ready_timer {r : BusReg} {v : Word} (h : Ready s) (hs : Sampled s) :
    busWrite r v s = .next (afterTimerWrite s (memWrite r v s)) := by
  unfold busWrite
  rw [oneStep_ready h, latch_timer hs (by simp) (by simp)]

theorem ready_of_hostReady (h : HostReady s) : Ready s :=
  ⟨h.1, .host, by simp [State.issuer, h.2.1], h.2.2⟩

/-! ### Two-step operations -/

/-- What a read-modify-write can do: its read, or the write of the same operation in progress. -/
theorem readModifyWrite_next {op : Instr} {r : BusReg} {f : Word → Word} (h : readModifyWrite op r f s = .next t) :
    s.faults = [] ∧ ∃ a, s.issuer = some a ∧
      ((s.inFlight a = none ∧ t = latch (memRead r (s.withOp a (some ⟨op, readReg r s⟩)))) ∨
        ∃ c, s.inFlight a = some ⟨op, c⟩ ∧ t = latch (memWrite r (f c) (s.withOp a none))) := by
  obtain ⟨hf, a, ha, h⟩ := byIssuer_next h
  refine ⟨hf, a, ha, ?_⟩
  split at h
  · next hn => cases h; exact .inl ⟨hn, rfl⟩
  · next g hg =>
    split at h
    · next he => cases h; cases he; exact .inr ⟨g.read, hg, rfl⟩
    · cases h

theorem readModifyWrite_ready {op : Instr} {r : BusReg} {f : Word → Word} {a : Agent} (hf : s.faults = [])
    (ha : s.issuer = some a) (hn : s.inFlight a = none) :
    readModifyWrite op r f s = .next (latch (memRead r (s.withOp a (some ⟨op, readReg r s⟩)))) := by
  unfold readModifyWrite
  rw [byIssuer_some hf ha]
  simp only [hn]

theorem readModifyWrite_inProgress {op : Instr} {r : BusReg} {f : Word → Word} {a : Agent} {c : Word} (hf : s.faults = [])
    (ha : s.issuer = some a) (hn : s.inFlight a = some ⟨op, c⟩) :
    readModifyWrite op r f s = .next (latch (memWrite r (f c) (s.withOp a none))) := by
  unfold readModifyWrite
  rw [byIssuer_some hf ha]
  simp only [hn, if_true]

/-- The read of a two-step operation, the inputs being sampled. -/
theorem readModifyWrite_read {op : Instr} {r : BusReg} {f : Word → Word} {a : Agent} (hf : s.faults = [])
    (ha : s.issuer = some a) (hs : Sampled s) (hn : s.inFlight a = none) :
    readModifyWrite op r f s =
      .next { s.withOp a (some ⟨op, readReg r s⟩) with trace := .read r (readReg r s) :: s.trace } := by
  rw [readModifyWrite_ready hf ha hn, latch_of_irqIn_eq (s := s) hs (by cases a <;> rfl) (by cases a <;> rfl)]
  cases a <;> rfl

/-- The write of a two-step operation on a register that does not move the timer's output. -/
theorem readModifyWrite_write {op : Instr} {r : BusReg} {f : Word → Word} {a : Agent} {c : Word} (hf : s.faults = [])
    (ha : s.issuer = some a) (hs : Sampled s) (hn : s.inFlight a = some ⟨op, c⟩)
    (hi : ∀ u : State, (writeReg r (f c) u).irqIn = u.irqIn) :
    readModifyWrite op r f s = .next (memWrite r (f c) (s.withOp a none)) := by
  rw [readModifyWrite_inProgress hf ha hn, latch_of_irqIn_eq (s := s) hs (by simp)]
  show (writeReg r (f c) (s.withOp a none)).irqIn = _
  rw [hi]; cases a <;> rfl

/-! ### Line operands (R88) -/

theorem lineOperand_in {line : Word} (h : line.toNat < 32) : lineOperand line = some ⟨line.toNat, h⟩ := by
  simp [lineOperand, h]

theorem lineOperand_out {line : Word} (h : 32 ≤ line.toNat) : lineOperand line = none := by
  simp [lineOperand]; omega

/-! ### Faults -/

theorem recordFault_clear {k : Fault} (h : s.faults = []) : recordFault k s = { s with faults := [k] } := by
  unfold recordFault; rw [h]; rfl

theorem afterInit_next {k : Result} (h : afterInit s k = .next t) :
    s.faults = [] ∧ ((s.initialised = true ∧ k = .next t) ∨ (s.initialised = false ∧ t = recordFault .preInit s)) := by
  obtain ⟨hf, -, h⟩ := unhalted_next h
  refine ⟨hf, ?_⟩
  split at h
  · exact .inl ⟨‹_›, h⟩
  · next hn => cases h; exact .inr ⟨by simpa using hn, rfl⟩

theorem afterInit_initialised {k : Result} (h : Live s) (hi : s.initialised = true) : afterInit s k = k := by
  unfold afterInit; rw [unhalted_live h, hi]; rfl

theorem afterInit_fault {k : Result} (h : Live s) (hi : s.initialised = false) :
    afterInit s k = .next { s with faults := [.preInit] } := by
  unfold afterInit
  rw [unhalted_live h, if_neg (by simp [hi]), recordFault_clear h.1]

/-- A trap in service is no halt. -/
theorem live_of_trap (hf : s.faults = []) (h : s.context = .trap) : Live s :=
  ⟨hf, fun r hr => by simp [State.context, hr] at h⟩

theorem outsideTrap_fault {k : Result} (hf : s.faults = []) (h : s.context = .trap) :
    outsideTrap s k = .next { s with faults := [.tableWriteInTrap] } := by
  unfold outsideTrap; rw [unhalted_live (live_of_trap hf h), h, recordFault_clear hf]

theorem outsideTrap_next {k : Result} (h : outsideTrap s k = .next t) :
    s.faults = [] ∧ ((s.context = .main ∧ k = .next t) ∨ (s.context = .trap ∧ t = recordFault .tableWriteInTrap s)) := by
  obtain ⟨hf, -, h⟩ := unhalted_next h
  refine ⟨hf, ?_⟩
  split at h
  · next hc => cases h; exact .inr ⟨hc, rfl⟩
  · next hc => exact .inl ⟨hc, h⟩

theorem outsideTrap_main {k : Result} (h : Live s) (hc : s.context = .main) : outsideTrap s k = k := by
  unfold outsideTrap; rw [unhalted_live h, hc]

theorem busFault_next {k : AccessFault} (h : busFault k s = .next t) : s.faults = [] ∧ ∃ f, t = recordFault f s := by
  obtain ⟨hf, a, -, h⟩ := byIssuer_next h
  cases h
  exact ⟨hf, _, rfl⟩

/-! ### Traps -/

theorem presentTrap_next {cause epc : Word} {regs : Snapshot} (h : presentTrap cause epc regs s = .next t) :
    s.faults = [] ∧
      ((s.engine = .idle ∧ t = latch { s with cause := cause, epc := epc, snap := regs, engine := .decode }) ∨
        t = recordFault .nestedTrap s) := by
  obtain ⟨hf, -, h⟩ := unhalted_next h
  refine ⟨hf, ?_⟩
  split at h
  · cases h; exact .inl ⟨‹_›, rfl⟩
  · cases h; exact .inr rfl

theorem presentTrap_idle {cause epc : Word} {regs : Snapshot} (hf : s.faults = []) (he : s.engine = .idle) :
    presentTrap cause epc regs s =
      .next (latch { s with cause := cause, epc := epc, snap := regs, engine := .decode }) := by
  unfold presentTrap; rw [unhalted_live (live_of_idle hf he), he]

/-! ### The timer counts on its own registers -/

/-- Counting changes only T_CTRL, T_COUNT, T_IPEND and `psc_cnt`. -/
theorem timerMatch_eq (s : State) : timerMatch s = { s with tIpend := (timerMatch s).tIpend } := by
  unfold timerMatch; split <;> rfl

theorem timerOverflow_eq (s : State) : timerOverflow s =
    { s with tIpend := (timerOverflow s).tIpend, tCount := (timerOverflow s).tCount, tCtrl := (timerOverflow s).tCtrl } := by
  unfold timerOverflow; split <;> rfl

theorem countStep_eq (s : State) : countStep s =
    { s with tIpend := (countStep s).tIpend, tCount := (countStep s).tCount, tCtrl := (countStep s).tCtrl } := by
  unfold countStep
  split
  · rw [timerMatch_eq, timerOverflow_eq]
  · rw [timerMatch_eq]

theorem timerTick_eq (s : State) : timerTick s =
    { s with tIpend := (timerTick s).tIpend, tCount := (timerTick s).tCount, tCtrl := (timerTick s).tCtrl,
             pscCnt := (timerTick s).pscCnt } := by
  unfold timerTick
  split
  · split
    · split
      · rw [countStep_eq]
      · rfl
    · rw [countStep_eq]
  · rfl

/-! ### What counting leaves alone -/

@[simp] theorem timerTick_params (s : State) : (timerTick s).params = s.params := by rw [timerTick_eq]
@[simp] theorem timerTick_statusMie (s : State) : (timerTick s).statusMie = s.statusMie := by rw [timerTick_eq]
@[simp] theorem timerTick_enable (s : State) : (timerTick s).enable = s.enable := by rw [timerTick_eq]
@[simp] theorem timerTick_pending (s : State) : (timerTick s).pending = s.pending := by rw [timerTick_eq]
@[simp] theorem timerTick_prio (s : State) : (timerTick s).prio = s.prio := by rw [timerTick_eq]
@[simp] theorem timerTick_irqPrev (s : State) : (timerTick s).irqPrev = s.irqPrev := by rw [timerTick_eq]
@[simp] theorem timerTick_irqLines (s : State) : (timerTick s).irqLines = s.irqLines := by rw [timerTick_eq]
@[simp] theorem timerTick_initialised (s : State) : (timerTick s).initialised = s.initialised := by rw [timerTick_eq]
@[simp] theorem timerTick_slots (s : State) : (timerTick s).slots = s.slots := by rw [timerTick_eq]
@[simp] theorem timerTick_engine (s : State) : (timerTick s).engine = s.engine := by rw [timerTick_eq]
@[simp] theorem timerTick_cause (s : State) : (timerTick s).cause = s.cause := by rw [timerTick_eq]
@[simp] theorem timerTick_epc (s : State) : (timerTick s).epc = s.epc := by rw [timerTick_eq]
@[simp] theorem timerTick_snap (s : State) : (timerTick s).snap = s.snap := by rw [timerTick_eq]
@[simp] theorem timerTick_resumePc (s : State) : (timerTick s).resumePc = s.resumePc := by rw [timerTick_eq]
@[simp] theorem timerTick_tReload (s : State) : (timerTick s).tReload = s.tReload := by rw [timerTick_eq]
@[simp] theorem timerTick_tMatch (s : State) : (timerTick s).tMatch = s.tMatch := by rw [timerTick_eq]
@[simp] theorem timerTick_tIen (s : State) : (timerTick s).tIen = s.tIen := by rw [timerTick_eq]
@[simp] theorem timerTick_hostOp (s : State) : (timerTick s).hostOp = s.hostOp := by rw [timerTick_eq]
@[simp] theorem timerTick_handlerOp (s : State) : (timerTick s).handlerOp = s.handlerOp := by rw [timerTick_eq]
@[simp] theorem timerTick_faults (s : State) : (timerTick s).faults = s.faults := by rw [timerTick_eq]
@[simp] theorem timerTick_draws (s : State) : (timerTick s).draws = s.draws := by rw [timerTick_eq]
@[simp] theorem timerTick_inputs (s : State) : (timerTick s).inputs = s.inputs := by rw [timerTick_eq]
@[simp] theorem timerTick_trace (s : State) : (timerTick s).trace = s.trace := by rw [timerTick_eq]

/-! ### Each case of a tick (R180 to R183) -/

theorem timerMatch_or (s : State) : timerMatch s =
    { s with tIpend := s.tIpend ||| (if s.tCount = s.tMatch then 0b10#2 else 0b00#2) } := by
  unfold timerMatch; split <;> simp

theorem countStep_plain (h : s.tCount ≠ 0xFFFFFFFF#32) :
    countStep s = timerMatch { s with tCount := s.tCount + 1#32 } := by
  unfold countStep; rw [if_neg h]

theorem countStep_reload (h : s.tCount = 0xFFFFFFFF#32) (ha : s.are = true) :
    countStep s = timerMatch { s with tIpend := s.tIpend ||| 0b01#2, tCount := s.tReload } := by
  unfold countStep timerOverflow; rw [if_pos h, if_pos ha]

theorem countStep_stop (h : s.tCount = 0xFFFFFFFF#32) (ha : s.are = false) :
    countStep s = timerMatch
      { s with tIpend := s.tIpend ||| 0b01#2, tCount := 0x00000000#32, tCtrl := s.tCtrl &&& 0b1111110#7 } := by
  unfold countStep timerOverflow; rw [if_pos h, if_neg (by simp [ha])]

theorem timerTick_stopped (h : s.start = false) : timerTick s = s := by
  unfold timerTick; rw [if_neg (by simp [h])]

theorem timerTick_prescaled (h : s.start = true) (hp : s.pse = true) (hc : s.pscCnt + 1 ≠ s.prescale) :
    timerTick s = { s with pscCnt := s.pscCnt + 1 } := by
  unfold timerTick; rw [if_pos h, if_pos hp, if_neg hc]

theorem timerTick_effective (h : s.start = true) (hp : s.pse = true → s.pscCnt + 1 = s.prescale) :
    timerTick s = countStep { s with pscCnt := if s.pse then 0 else s.pscCnt } := by
  unfold timerTick
  rw [if_pos h]
  by_cases hq : s.pse = true
  · simp only [if_pos hq, if_pos (hp hq)]
  · simp only [if_neg hq]

end Sys2Proof.Machine
end

