-- ==== Sys2Proof/Laws/PerInstr.lean ====
section
/-! SUPPORT. Per operation: the encoder's code word meets the mask and match of its row of spec/opcode_table.json, which
are copied here from the table and not from the decoder. -/

namespace Sys2Proof.Laws.RowWord

/-- The three formats of the table. -/
inductive Format where
  | busreq | hostop | cause
deriving DecidableEq, Repr

/-- A row of the table: its format, match and mask. -/
structure Row where
  format : Format
  pattern : Word
  mask : Word
deriving DecidableEq, Repr

/-- The row of an operation. -/
def row : Instr → Row
  | .rdPicStatus => ⟨.busreq, 0x000#32, 0x3FF#32⟩
  | .wrPicStatus _ => ⟨.busreq, 0x200#32, 0x3FF#32⟩
  | .rdPicEnable => ⟨.busreq, 0x004#32, 0x3FF#32⟩
  | .wrPicEnable _ => ⟨.busreq, 0x204#32, 0x3FF#32⟩
  | .rdPicPending => ⟨.busreq, 0x008#32, 0x3FF#32⟩
  | .wrPicPending _ => ⟨.busreq, 0x208#32, 0x3FF#32⟩
  | .rdPicAck => ⟨.busreq, 0x00C#32, 0x3FF#32⟩
  | .wrPicAck _ => ⟨.busreq, 0x20C#32, 0x3FF#32⟩
  | .rdPicPrio0 => ⟨.busreq, 0x010#32, 0x3FF#32⟩
  | .wrPicPrio0 _ => ⟨.busreq, 0x210#32, 0x3FF#32⟩
  | .rdPicPrio1 => ⟨.busreq, 0x014#32, 0x3FF#32⟩
  | .wrPicPrio1 _ => ⟨.busreq, 0x214#32, 0x3FF#32⟩
  | .rdPicPrio2 => ⟨.busreq, 0x018#32, 0x3FF#32⟩
  | .wrPicPrio2 _ => ⟨.busreq, 0x218#32, 0x3FF#32⟩
  | .rdPicPrio3 => ⟨.busreq, 0x01C#32, 0x3FF#32⟩
  | .wrPicPrio3 _ => ⟨.busreq, 0x21C#32, 0x3FF#32⟩
  | .rdPicPrio4 => ⟨.busreq, 0x020#32, 0x3FF#32⟩
  | .wrPicPrio4 _ => ⟨.busreq, 0x220#32, 0x3FF#32⟩
  | .rdPicPrio5 => ⟨.busreq, 0x024#32, 0x3FF#32⟩
  | .wrPicPrio5 _ => ⟨.busreq, 0x224#32, 0x3FF#32⟩
  | .rdPicPrio6 => ⟨.busreq, 0x028#32, 0x3FF#32⟩
  | .wrPicPrio6 _ => ⟨.busreq, 0x228#32, 0x3FF#32⟩
  | .rdPicPrio7 => ⟨.busreq, 0x02C#32, 0x3FF#32⟩
  | .wrPicPrio7 _ => ⟨.busreq, 0x22C#32, 0x3FF#32⟩
  | .rdPicPrio8 => ⟨.busreq, 0x030#32, 0x3FF#32⟩
  | .wrPicPrio8 _ => ⟨.busreq, 0x230#32, 0x3FF#32⟩
  | .rdPicPrio9 => ⟨.busreq, 0x034#32, 0x3FF#32⟩
  | .wrPicPrio9 _ => ⟨.busreq, 0x234#32, 0x3FF#32⟩
  | .rdPicPrio10 => ⟨.busreq, 0x038#32, 0x3FF#32⟩
  | .wrPicPrio10 _ => ⟨.busreq, 0x238#32, 0x3FF#32⟩
  | .rdPicPrio11 => ⟨.busreq, 0x03C#32, 0x3FF#32⟩
  | .wrPicPrio11 _ => ⟨.busreq, 0x23C#32, 0x3FF#32⟩
  | .rdPicPrio12 => ⟨.busreq, 0x040#32, 0x3FF#32⟩
  | .wrPicPrio12 _ => ⟨.busreq, 0x240#32, 0x3FF#32⟩
  | .rdPicPrio13 => ⟨.busreq, 0x044#32, 0x3FF#32⟩
  | .wrPicPrio13 _ => ⟨.busreq, 0x244#32, 0x3FF#32⟩
  | .rdPicPrio14 => ⟨.busreq, 0x048#32, 0x3FF#32⟩
  | .wrPicPrio14 _ => ⟨.busreq, 0x248#32, 0x3FF#32⟩
  | .rdPicPrio15 => ⟨.busreq, 0x04C#32, 0x3FF#32⟩
  | .wrPicPrio15 _ => ⟨.busreq, 0x24C#32, 0x3FF#32⟩
  | .rdPicPrio16 => ⟨.busreq, 0x050#32, 0x3FF#32⟩
  | .wrPicPrio16 _ => ⟨.busreq, 0x250#32, 0x3FF#32⟩
  | .rdPicPrio17 => ⟨.busreq, 0x054#32, 0x3FF#32⟩
  | .wrPicPrio17 _ => ⟨.busreq, 0x254#32, 0x3FF#32⟩
  | .rdPicPrio18 => ⟨.busreq, 0x058#32, 0x3FF#32⟩
  | .wrPicPrio18 _ => ⟨.busreq, 0x258#32, 0x3FF#32⟩
  | .rdPicPrio19 => ⟨.busreq, 0x05C#32, 0x3FF#32⟩
  | .wrPicPrio19 _ => ⟨.busreq, 0x25C#32, 0x3FF#32⟩
  | .rdPicPrio20 => ⟨.busreq, 0x060#32, 0x3FF#32⟩
  | .wrPicPrio20 _ => ⟨.busreq, 0x260#32, 0x3FF#32⟩
  | .rdPicPrio21 => ⟨.busreq, 0x064#32, 0x3FF#32⟩
  | .wrPicPrio21 _ => ⟨.busreq, 0x264#32, 0x3FF#32⟩
  | .rdPicPrio22 => ⟨.busreq, 0x068#32, 0x3FF#32⟩
  | .wrPicPrio22 _ => ⟨.busreq, 0x268#32, 0x3FF#32⟩
  | .rdPicPrio23 => ⟨.busreq, 0x06C#32, 0x3FF#32⟩
  | .wrPicPrio23 _ => ⟨.busreq, 0x26C#32, 0x3FF#32⟩
  | .rdPicPrio24 => ⟨.busreq, 0x070#32, 0x3FF#32⟩
  | .wrPicPrio24 _ => ⟨.busreq, 0x270#32, 0x3FF#32⟩
  | .rdPicPrio25 => ⟨.busreq, 0x074#32, 0x3FF#32⟩
  | .wrPicPrio25 _ => ⟨.busreq, 0x274#32, 0x3FF#32⟩
  | .rdPicPrio26 => ⟨.busreq, 0x078#32, 0x3FF#32⟩
  | .wrPicPrio26 _ => ⟨.busreq, 0x278#32, 0x3FF#32⟩
  | .rdPicPrio27 => ⟨.busreq, 0x07C#32, 0x3FF#32⟩
  | .wrPicPrio27 _ => ⟨.busreq, 0x27C#32, 0x3FF#32⟩
  | .rdPicPrio28 => ⟨.busreq, 0x080#32, 0x3FF#32⟩
  | .wrPicPrio28 _ => ⟨.busreq, 0x280#32, 0x3FF#32⟩
  | .rdPicPrio29 => ⟨.busreq, 0x084#32, 0x3FF#32⟩
  | .wrPicPrio29 _ => ⟨.busreq, 0x284#32, 0x3FF#32⟩
  | .rdPicPrio30 => ⟨.busreq, 0x088#32, 0x3FF#32⟩
  | .wrPicPrio30 _ => ⟨.busreq, 0x288#32, 0x3FF#32⟩
  | .rdPicPrio31 => ⟨.busreq, 0x08C#32, 0x3FF#32⟩
  | .wrPicPrio31 _ => ⟨.busreq, 0x28C#32, 0x3FF#32⟩
  | .rdTmrCtrl => ⟨.busreq, 0x100#32, 0x3FF#32⟩
  | .wrTmrCtrl _ => ⟨.busreq, 0x300#32, 0x3FF#32⟩
  | .rdTmrCount => ⟨.busreq, 0x104#32, 0x3FF#32⟩
  | .wrTmrCount _ => ⟨.busreq, 0x304#32, 0x3FF#32⟩
  | .rdTmrReload => ⟨.busreq, 0x108#32, 0x3FF#32⟩
  | .wrTmrReload _ => ⟨.busreq, 0x308#32, 0x3FF#32⟩
  | .rdTmrMatch => ⟨.busreq, 0x10C#32, 0x3FF#32⟩
  | .wrTmrMatch _ => ⟨.busreq, 0x30C#32, 0x3FF#32⟩
  | .rdTmrIen => ⟨.busreq, 0x110#32, 0x3FF#32⟩
  | .wrTmrIen _ => ⟨.busreq, 0x310#32, 0x3FF#32⟩
  | .rdTmrIpend => ⟨.busreq, 0x114#32, 0x3FF#32⟩
  | .wrTmrIpend _ => ⟨.busreq, 0x314#32, 0x3FF#32⟩
  | .rdTmrIack => ⟨.busreq, 0x118#32, 0x3FF#32⟩
  | .wrTmrIack _ => ⟨.busreq, 0x318#32, 0x3FF#32⟩
  | .picInit => ⟨.hostop, 0x01#32, 0xFF#32⟩
  | .picRegisterHandler _ _ => ⟨.hostop, 0x02#32, 0xFF#32⟩
  | .picMasterEnable => ⟨.hostop, 0x03#32, 0xFF#32⟩
  | .picMasterDisable => ⟨.hostop, 0x04#32, 0xFF#32⟩
  | .picEnableInterrupt _ => ⟨.hostop, 0x05#32, 0xFF#32⟩
  | .picDisableInterrupt _ => ⟨.hostop, 0x06#32, 0xFF#32⟩
  | .picSetPriority _ _ => ⟨.hostop, 0x07#32, 0xFF#32⟩
  | .picDispatch => ⟨.hostop, 0x08#32, 0xFF#32⟩
  | .tmrSetPrescaler _ => ⟨.hostop, 0x20#32, 0xFF#32⟩
  | .tmrEnableAutoreload => ⟨.hostop, 0x21#32, 0xFF#32⟩
  | .tmrDisableAutoreload => ⟨.hostop, 0x22#32, 0xFF#32⟩
  | .tmrEnablePrescaler => ⟨.hostop, 0x23#32, 0xFF#32⟩
  | .tmrDisablePrescaler => ⟨.hostop, 0x24#32, 0xFF#32⟩
  | .tmrEnableInterrupts => ⟨.hostop, 0x25#32, 0xFF#32⟩
  | .tmrDisableInterrupts => ⟨.hostop, 0x26#32, 0xFF#32⟩
  | .tmrStart => ⟨.hostop, 0x27#32, 0xFF#32⟩
  | .tmrStop => ⟨.hostop, 0x28#32, 0xFF#32⟩
  | .tmrSetCounter _ => ⟨.hostop, 0x29#32, 0xFF#32⟩
  | .tmrSetReload _ => ⟨.hostop, 0x2A#32, 0xFF#32⟩
  | .tmrSetMatch _ => ⟨.hostop, 0x2B#32, 0xFF#32⟩
  | .tmrEnableIndividualInterrupts _ => ⟨.hostop, 0x2C#32, 0xFF#32⟩
  | .tmrGetInterruptsPending => ⟨.hostop, 0x2D#32, 0xFF#32⟩
  | .tmrAcknowledgeInterrupts _ => ⟨.hostop, 0x2E#32, 0xFF#32⟩
  | .evLine _ _ => ⟨.hostop, 0x60#32, 0xFF#32⟩
  | .evTick => ⟨.hostop, 0x61#32, 0xFF#32⟩
  | .trapExtIrq _ _ => ⟨.cause, 0x8000000F#32, 0xFFFFFFFF#32⟩
  | .trapEcallM _ _ => ⟨.cause, 0x0000000B#32, 0xFFFFFFFF#32⟩
  | .trapHaltIrq _ _ _ => ⟨.cause, 0x80000000#32, 0x80000000#32⟩
  | .trapHaltExc _ _ _ => ⟨.cause, 0x00000000#32, 0x80000000#32⟩

/-- A request of words carries this row's code word. -/
def Carries (r : Row) : Request → Prop
  | .busreq (w :: _) => r.format = .busreq ∧ w &&& r.mask = r.pattern
  | .op (w :: _) => r.format = .hostop ∧ w &&& r.mask = r.pattern
  | .trap (w :: _) => r.format = .cause ∧ w &&& r.mask = r.pattern
  | _ => False

/-- The encoding of `i` carries the code word of its row. -/
def Statement (i : Instr) : Prop := Carries (row i) (encode i)

/-- An interrupt cause has bit 31 set. -/
theorem irqCause_masked (code : BitVec 31) : irqCause code &&& 0x80000000#32 = 0x80000000#32 := by
  ext k hk
  have h : (irqCause code).getLsbD 31 = true := (BitVec.getLsbD_append (x := 1#1) (y := code) (i := 31)).trans (by simp)
  interval_cases k <;> simp [← BitVec.getLsbD_eq_getElem, h]

/-- An exception cause has bit 31 clear. -/
theorem excCause_masked (code : BitVec 31) : excCause code &&& 0x80000000#32 = 0x00000000#32 := by
  ext k hk
  have h : (excCause code).getLsbD 31 = false := (BitVec.getLsbD_append (x := 0#1) (y := code) (i := 31)).trans (by simp)
  interval_cases k <;> simp [← BitVec.getLsbD_eq_getElem, h]

theorem rdPicStatus : Statement .rdPicStatus := ⟨rfl, (by decide : 0x000#32 &&& 0x3FF#32 = 0x000#32)⟩
theorem wrPicStatus (v : Word) : Statement (.wrPicStatus v) := ⟨rfl, (by decide : 0x200#32 &&& 0x3FF#32 = 0x200#32)⟩
theorem rdPicEnable : Statement .rdPicEnable := ⟨rfl, (by decide : 0x004#32 &&& 0x3FF#32 = 0x004#32)⟩
theorem wrPicEnable (v : Word) : Statement (.wrPicEnable v) := ⟨rfl, (by decide : 0x204#32 &&& 0x3FF#32 = 0x204#32)⟩
theorem rdPicPending : Statement .rdPicPending := ⟨rfl, (by decide : 0x008#32 &&& 0x3FF#32 = 0x008#32)⟩
theorem wrPicPending (v : Word) : Statement (.wrPicPending v) := ⟨rfl, (by decide : 0x208#32 &&& 0x3FF#32 = 0x208#32)⟩
theorem rdPicAck : Statement .rdPicAck := ⟨rfl, (by decide : 0x00C#32 &&& 0x3FF#32 = 0x00C#32)⟩
theorem wrPicAck (v : Word) : Statement (.wrPicAck v) := ⟨rfl, (by decide : 0x20C#32 &&& 0x3FF#32 = 0x20C#32)⟩
theorem rdPicPrio0 : Statement .rdPicPrio0 := ⟨rfl, (by decide : 0x010#32 &&& 0x3FF#32 = 0x010#32)⟩
theorem wrPicPrio0 (v : Word) : Statement (.wrPicPrio0 v) := ⟨rfl, (by decide : 0x210#32 &&& 0x3FF#32 = 0x210#32)⟩
theorem rdPicPrio1 : Statement .rdPicPrio1 := ⟨rfl, (by decide : 0x014#32 &&& 0x3FF#32 = 0x014#32)⟩
theorem wrPicPrio1 (v : Word) : Statement (.wrPicPrio1 v) := ⟨rfl, (by decide : 0x214#32 &&& 0x3FF#32 = 0x214#32)⟩
theorem rdPicPrio2 : Statement .rdPicPrio2 := ⟨rfl, (by decide : 0x018#32 &&& 0x3FF#32 = 0x018#32)⟩
theorem wrPicPrio2 (v : Word) : Statement (.wrPicPrio2 v) := ⟨rfl, (by decide : 0x218#32 &&& 0x3FF#32 = 0x218#32)⟩
theorem rdPicPrio3 : Statement .rdPicPrio3 := ⟨rfl, (by decide : 0x01C#32 &&& 0x3FF#32 = 0x01C#32)⟩
theorem wrPicPrio3 (v : Word) : Statement (.wrPicPrio3 v) := ⟨rfl, (by decide : 0x21C#32 &&& 0x3FF#32 = 0x21C#32)⟩
theorem rdPicPrio4 : Statement .rdPicPrio4 := ⟨rfl, (by decide : 0x020#32 &&& 0x3FF#32 = 0x020#32)⟩
theorem wrPicPrio4 (v : Word) : Statement (.wrPicPrio4 v) := ⟨rfl, (by decide : 0x220#32 &&& 0x3FF#32 = 0x220#32)⟩
theorem rdPicPrio5 : Statement .rdPicPrio5 := ⟨rfl, (by decide : 0x024#32 &&& 0x3FF#32 = 0x024#32)⟩
theorem wrPicPrio5 (v : Word) : Statement (.wrPicPrio5 v) := ⟨rfl, (by decide : 0x224#32 &&& 0x3FF#32 = 0x224#32)⟩
theorem rdPicPrio6 : Statement .rdPicPrio6 := ⟨rfl, (by decide : 0x028#32 &&& 0x3FF#32 = 0x028#32)⟩
theorem wrPicPrio6 (v : Word) : Statement (.wrPicPrio6 v) := ⟨rfl, (by decide : 0x228#32 &&& 0x3FF#32 = 0x228#32)⟩
theorem rdPicPrio7 : Statement .rdPicPrio7 := ⟨rfl, (by decide : 0x02C#32 &&& 0x3FF#32 = 0x02C#32)⟩
theorem wrPicPrio7 (v : Word) : Statement (.wrPicPrio7 v) := ⟨rfl, (by decide : 0x22C#32 &&& 0x3FF#32 = 0x22C#32)⟩
theorem rdPicPrio8 : Statement .rdPicPrio8 := ⟨rfl, (by decide : 0x030#32 &&& 0x3FF#32 = 0x030#32)⟩
theorem wrPicPrio8 (v : Word) : Statement (.wrPicPrio8 v) := ⟨rfl, (by decide : 0x230#32 &&& 0x3FF#32 = 0x230#32)⟩
theorem rdPicPrio9 : Statement .rdPicPrio9 := ⟨rfl, (by decide : 0x034#32 &&& 0x3FF#32 = 0x034#32)⟩
theorem wrPicPrio9 (v : Word) : Statement (.wrPicPrio9 v) := ⟨rfl, (by decide : 0x234#32 &&& 0x3FF#32 = 0x234#32)⟩
theorem rdPicPrio10 : Statement .rdPicPrio10 := ⟨rfl, (by decide : 0x038#32 &&& 0x3FF#32 = 0x038#32)⟩
theorem wrPicPrio10 (v : Word) : Statement (.wrPicPrio10 v) := ⟨rfl, (by decide : 0x238#32 &&& 0x3FF#32 = 0x238#32)⟩
theorem rdPicPrio11 : Statement .rdPicPrio11 := ⟨rfl, (by decide : 0x03C#32 &&& 0x3FF#32 = 0x03C#32)⟩
theorem wrPicPrio11 (v : Word) : Statement (.wrPicPrio11 v) := ⟨rfl, (by decide : 0x23C#32 &&& 0x3FF#32 = 0x23C#32)⟩
theorem rdPicPrio12 : Statement .rdPicPrio12 := ⟨rfl, (by decide : 0x040#32 &&& 0x3FF#32 = 0x040#32)⟩
theorem wrPicPrio12 (v : Word) : Statement (.wrPicPrio12 v) := ⟨rfl, (by decide : 0x240#32 &&& 0x3FF#32 = 0x240#32)⟩
theorem rdPicPrio13 : Statement .rdPicPrio13 := ⟨rfl, (by decide : 0x044#32 &&& 0x3FF#32 = 0x044#32)⟩
theorem wrPicPrio13 (v : Word) : Statement (.wrPicPrio13 v) := ⟨rfl, (by decide : 0x244#32 &&& 0x3FF#32 = 0x244#32)⟩
theorem rdPicPrio14 : Statement .rdPicPrio14 := ⟨rfl, (by decide : 0x048#32 &&& 0x3FF#32 = 0x048#32)⟩
theorem wrPicPrio14 (v : Word) : Statement (.wrPicPrio14 v) := ⟨rfl, (by decide : 0x248#32 &&& 0x3FF#32 = 0x248#32)⟩
theorem rdPicPrio15 : Statement .rdPicPrio15 := ⟨rfl, (by decide : 0x04C#32 &&& 0x3FF#32 = 0x04C#32)⟩
theorem wrPicPrio15 (v : Word) : Statement (.wrPicPrio15 v) := ⟨rfl, (by decide : 0x24C#32 &&& 0x3FF#32 = 0x24C#32)⟩
theorem rdPicPrio16 : Statement .rdPicPrio16 := ⟨rfl, (by decide : 0x050#32 &&& 0x3FF#32 = 0x050#32)⟩
theorem wrPicPrio16 (v : Word) : Statement (.wrPicPrio16 v) := ⟨rfl, (by decide : 0x250#32 &&& 0x3FF#32 = 0x250#32)⟩
theorem rdPicPrio17 : Statement .rdPicPrio17 := ⟨rfl, (by decide : 0x054#32 &&& 0x3FF#32 = 0x054#32)⟩
theorem wrPicPrio17 (v : Word) : Statement (.wrPicPrio17 v) := ⟨rfl, (by decide : 0x254#32 &&& 0x3FF#32 = 0x254#32)⟩
theorem rdPicPrio18 : Statement .rdPicPrio18 := ⟨rfl, (by decide : 0x058#32 &&& 0x3FF#32 = 0x058#32)⟩
theorem wrPicPrio18 (v : Word) : Statement (.wrPicPrio18 v) := ⟨rfl, (by decide : 0x258#32 &&& 0x3FF#32 = 0x258#32)⟩
theorem rdPicPrio19 : Statement .rdPicPrio19 := ⟨rfl, (by decide : 0x05C#32 &&& 0x3FF#32 = 0x05C#32)⟩
theorem wrPicPrio19 (v : Word) : Statement (.wrPicPrio19 v) := ⟨rfl, (by decide : 0x25C#32 &&& 0x3FF#32 = 0x25C#32)⟩
theorem rdPicPrio20 : Statement .rdPicPrio20 := ⟨rfl, (by decide : 0x060#32 &&& 0x3FF#32 = 0x060#32)⟩
theorem wrPicPrio20 (v : Word) : Statement (.wrPicPrio20 v) := ⟨rfl, (by decide : 0x260#32 &&& 0x3FF#32 = 0x260#32)⟩
theorem rdPicPrio21 : Statement .rdPicPrio21 := ⟨rfl, (by decide : 0x064#32 &&& 0x3FF#32 = 0x064#32)⟩
theorem wrPicPrio21 (v : Word) : Statement (.wrPicPrio21 v) := ⟨rfl, (by decide : 0x264#32 &&& 0x3FF#32 = 0x264#32)⟩
theorem rdPicPrio22 : Statement .rdPicPrio22 := ⟨rfl, (by decide : 0x068#32 &&& 0x3FF#32 = 0x068#32)⟩
theorem wrPicPrio22 (v : Word) : Statement (.wrPicPrio22 v) := ⟨rfl, (by decide : 0x268#32 &&& 0x3FF#32 = 0x268#32)⟩
theorem rdPicPrio23 : Statement .rdPicPrio23 := ⟨rfl, (by decide : 0x06C#32 &&& 0x3FF#32 = 0x06C#32)⟩
theorem wrPicPrio23 (v : Word) : Statement (.wrPicPrio23 v) := ⟨rfl, (by decide : 0x26C#32 &&& 0x3FF#32 = 0x26C#32)⟩
theorem rdPicPrio24 : Statement .rdPicPrio24 := ⟨rfl, (by decide : 0x070#32 &&& 0x3FF#32 = 0x070#32)⟩
theorem wrPicPrio24 (v : Word) : Statement (.wrPicPrio24 v) := ⟨rfl, (by decide : 0x270#32 &&& 0x3FF#32 = 0x270#32)⟩
theorem rdPicPrio25 : Statement .rdPicPrio25 := ⟨rfl, (by decide : 0x074#32 &&& 0x3FF#32 = 0x074#32)⟩
theorem wrPicPrio25 (v : Word) : Statement (.wrPicPrio25 v) := ⟨rfl, (by decide : 0x274#32 &&& 0x3FF#32 = 0x274#32)⟩
theorem rdPicPrio26 : Statement .rdPicPrio26 := ⟨rfl, (by decide : 0x078#32 &&& 0x3FF#32 = 0x078#32)⟩
theorem wrPicPrio26 (v : Word) : Statement (.wrPicPrio26 v) := ⟨rfl, (by decide : 0x278#32 &&& 0x3FF#32 = 0x278#32)⟩
theorem rdPicPrio27 : Statement .rdPicPrio27 := ⟨rfl, (by decide : 0x07C#32 &&& 0x3FF#32 = 0x07C#32)⟩
theorem wrPicPrio27 (v : Word) : Statement (.wrPicPrio27 v) := ⟨rfl, (by decide : 0x27C#32 &&& 0x3FF#32 = 0x27C#32)⟩
theorem rdPicPrio28 : Statement .rdPicPrio28 := ⟨rfl, (by decide : 0x080#32 &&& 0x3FF#32 = 0x080#32)⟩
theorem wrPicPrio28 (v : Word) : Statement (.wrPicPrio28 v) := ⟨rfl, (by decide : 0x280#32 &&& 0x3FF#32 = 0x280#32)⟩
theorem rdPicPrio29 : Statement .rdPicPrio29 := ⟨rfl, (by decide : 0x084#32 &&& 0x3FF#32 = 0x084#32)⟩
theorem wrPicPrio29 (v : Word) : Statement (.wrPicPrio29 v) := ⟨rfl, (by decide : 0x284#32 &&& 0x3FF#32 = 0x284#32)⟩
theorem rdPicPrio30 : Statement .rdPicPrio30 := ⟨rfl, (by decide : 0x088#32 &&& 0x3FF#32 = 0x088#32)⟩
theorem wrPicPrio30 (v : Word) : Statement (.wrPicPrio30 v) := ⟨rfl, (by decide : 0x288#32 &&& 0x3FF#32 = 0x288#32)⟩
theorem rdPicPrio31 : Statement .rdPicPrio31 := ⟨rfl, (by decide : 0x08C#32 &&& 0x3FF#32 = 0x08C#32)⟩
theorem wrPicPrio31 (v : Word) : Statement (.wrPicPrio31 v) := ⟨rfl, (by decide : 0x28C#32 &&& 0x3FF#32 = 0x28C#32)⟩
theorem rdTmrCtrl : Statement .rdTmrCtrl := ⟨rfl, (by decide : 0x100#32 &&& 0x3FF#32 = 0x100#32)⟩
theorem wrTmrCtrl (v : Word) : Statement (.wrTmrCtrl v) := ⟨rfl, (by decide : 0x300#32 &&& 0x3FF#32 = 0x300#32)⟩
theorem rdTmrCount : Statement .rdTmrCount := ⟨rfl, (by decide : 0x104#32 &&& 0x3FF#32 = 0x104#32)⟩
theorem wrTmrCount (v : Word) : Statement (.wrTmrCount v) := ⟨rfl, (by decide : 0x304#32 &&& 0x3FF#32 = 0x304#32)⟩
theorem rdTmrReload : Statement .rdTmrReload := ⟨rfl, (by decide : 0x108#32 &&& 0x3FF#32 = 0x108#32)⟩
theorem wrTmrReload (v : Word) : Statement (.wrTmrReload v) := ⟨rfl, (by decide : 0x308#32 &&& 0x3FF#32 = 0x308#32)⟩
theorem rdTmrMatch : Statement .rdTmrMatch := ⟨rfl, (by decide : 0x10C#32 &&& 0x3FF#32 = 0x10C#32)⟩
theorem wrTmrMatch (v : Word) : Statement (.wrTmrMatch v) := ⟨rfl, (by decide : 0x30C#32 &&& 0x3FF#32 = 0x30C#32)⟩
theorem rdTmrIen : Statement .rdTmrIen := ⟨rfl, (by decide : 0x110#32 &&& 0x3FF#32 = 0x110#32)⟩
theorem wrTmrIen (v : Word) : Statement (.wrTmrIen v) := ⟨rfl, (by decide : 0x310#32 &&& 0x3FF#32 = 0x310#32)⟩
theorem rdTmrIpend : Statement .rdTmrIpend := ⟨rfl, (by decide : 0x114#32 &&& 0x3FF#32 = 0x114#32)⟩
theorem wrTmrIpend (v : Word) : Statement (.wrTmrIpend v) := ⟨rfl, (by decide : 0x314#32 &&& 0x3FF#32 = 0x314#32)⟩
theorem rdTmrIack : Statement .rdTmrIack := ⟨rfl, (by decide : 0x118#32 &&& 0x3FF#32 = 0x118#32)⟩
theorem wrTmrIack (v : Word) : Statement (.wrTmrIack v) := ⟨rfl, (by decide : 0x318#32 &&& 0x3FF#32 = 0x318#32)⟩
theorem picInit : Statement .picInit := ⟨rfl, (by decide : 0x01#32 &&& 0xFF#32 = 0x01#32)⟩
theorem picRegisterHandler (line : Word) (h : HandlerId) : Statement (.picRegisterHandler line h) := ⟨rfl, (by decide : 0x02#32 &&& 0xFF#32 = 0x02#32)⟩
theorem picMasterEnable : Statement .picMasterEnable := ⟨rfl, (by decide : 0x03#32 &&& 0xFF#32 = 0x03#32)⟩
theorem picMasterDisable : Statement .picMasterDisable := ⟨rfl, (by decide : 0x04#32 &&& 0xFF#32 = 0x04#32)⟩
theorem picEnableInterrupt (line : Word) : Statement (.picEnableInterrupt line) := ⟨rfl, (by decide : 0x05#32 &&& 0xFF#32 = 0x05#32)⟩
theorem picDisableInterrupt (line : Word) : Statement (.picDisableInterrupt line) := ⟨rfl, (by decide : 0x06#32 &&& 0xFF#32 = 0x06#32)⟩
theorem picSetPriority (line : Word) (priority : Word) : Statement (.picSetPriority line priority) := ⟨rfl, (by decide : 0x07#32 &&& 0xFF#32 = 0x07#32)⟩
theorem picDispatch : Statement .picDispatch := ⟨rfl, (by decide : 0x08#32 &&& 0xFF#32 = 0x08#32)⟩
theorem tmrSetPrescaler (value : Word) : Statement (.tmrSetPrescaler value) := ⟨rfl, (by decide : 0x20#32 &&& 0xFF#32 = 0x20#32)⟩
theorem tmrEnableAutoreload : Statement .tmrEnableAutoreload := ⟨rfl, (by decide : 0x21#32 &&& 0xFF#32 = 0x21#32)⟩
theorem tmrDisableAutoreload : Statement .tmrDisableAutoreload := ⟨rfl, (by decide : 0x22#32 &&& 0xFF#32 = 0x22#32)⟩
theorem tmrEnablePrescaler : Statement .tmrEnablePrescaler := ⟨rfl, (by decide : 0x23#32 &&& 0xFF#32 = 0x23#32)⟩
theorem tmrDisablePrescaler : Statement .tmrDisablePrescaler := ⟨rfl, (by decide : 0x24#32 &&& 0xFF#32 = 0x24#32)⟩
theorem tmrEnableInterrupts : Statement .tmrEnableInterrupts := ⟨rfl, (by decide : 0x25#32 &&& 0xFF#32 = 0x25#32)⟩
theorem tmrDisableInterrupts : Statement .tmrDisableInterrupts := ⟨rfl, (by decide : 0x26#32 &&& 0xFF#32 = 0x26#32)⟩
theorem tmrStart : Statement .tmrStart := ⟨rfl, (by decide : 0x27#32 &&& 0xFF#32 = 0x27#32)⟩
theorem tmrStop : Statement .tmrStop := ⟨rfl, (by decide : 0x28#32 &&& 0xFF#32 = 0x28#32)⟩
theorem tmrSetCounter (value : Word) : Statement (.tmrSetCounter value) := ⟨rfl, (by decide : 0x29#32 &&& 0xFF#32 = 0x29#32)⟩
theorem tmrSetReload (value : Word) : Statement (.tmrSetReload value) := ⟨rfl, (by decide : 0x2A#32 &&& 0xFF#32 = 0x2A#32)⟩
theorem tmrSetMatch (value : Word) : Statement (.tmrSetMatch value) := ⟨rfl, (by decide : 0x2B#32 &&& 0xFF#32 = 0x2B#32)⟩
theorem tmrEnableIndividualInterrupts (mask : Word) : Statement (.tmrEnableIndividualInterrupts mask) := ⟨rfl, (by decide : 0x2C#32 &&& 0xFF#32 = 0x2C#32)⟩
theorem tmrGetInterruptsPending : Statement .tmrGetInterruptsPending := ⟨rfl, (by decide : 0x2D#32 &&& 0xFF#32 = 0x2D#32)⟩
theorem tmrAcknowledgeInterrupts (mask : Word) : Statement (.tmrAcknowledgeInterrupts mask) := ⟨rfl, (by decide : 0x2E#32 &&& 0xFF#32 = 0x2E#32)⟩
theorem evLine (n : Word) (level : Bool) : Statement (.evLine n level) := ⟨rfl, (by decide : 0x60#32 &&& 0xFF#32 = 0x60#32)⟩
theorem evTick : Statement .evTick := ⟨rfl, (by decide : 0x61#32 &&& 0xFF#32 = 0x61#32)⟩
theorem trapExtIrq (epc : Word) (regs : Snapshot) : Statement (.trapExtIrq epc regs) := ⟨rfl, (by decide : 0x8000000F#32 &&& 0xFFFFFFFF#32 = 0x8000000F#32)⟩
theorem trapEcallM (epc : Word) (regs : Snapshot) : Statement (.trapEcallM epc regs) := ⟨rfl, (by decide : 0x0000000B#32 &&& 0xFFFFFFFF#32 = 0x0000000B#32)⟩
theorem trapHaltIrq (code : BitVec 31) (epc : Word) (regs : Snapshot) : Statement (.trapHaltIrq code epc regs) := ⟨rfl, irqCause_masked code⟩
theorem trapHaltExc (code : BitVec 31) (epc : Word) (regs : Snapshot) : Statement (.trapHaltExc code epc regs) := ⟨rfl, excCause_masked code⟩

end Sys2Proof.Laws.RowWord
end

