-- ==== Sys2Proof/Laws/Step.lean ====
section
/-! SUPPORT. What a step can do, said once: the moves of an operation, of the trap engine, and of a step. -/

namespace Sys2Proof.Machine

variable {s t : State}

/-- Everything an operation can do when it answers a next state. -/
inductive Move (s : State) : State → Prop
  /-- An out-of-range driver operation: no transaction. -/
  | quiet (hr : Ready s) : Move s (latch s)
  /-- One read transaction. -/
  | read (r : BusReg) (hr : Ready s) : Move s (latch (memRead r s))
  /-- One write transaction. -/
  | write (r : BusReg) (v : Word) (hr : Ready s) : Move s (latch (memWrite r v s))
  /-- The read of a two-transaction driver operation. -/
  | opRead {a : Agent} {op : Instr} (r : BusReg) (ha : s.issuer = some a) (hn : s.inFlight a = none)
      (hs : Started s ⟨op, readReg r s⟩) : Move s (latch (memRead r (s.withOp a (some ⟨op, readReg r s⟩))))
  /-- The write of the driver operation in progress. -/
  | opWrite {a : Agent} {op : Instr} {c : Word} (r : BusReg) (v : Word) (ha : s.issuer = some a)
      (hg : s.inFlight a = some ⟨op, c⟩) : Move s (latch (memWrite r v (s.withOp a none)))
  | init (hr : HostReady s) :
      Move s (latch { s with slots := Vector.replicate 32 (.holds .defaultHandler), initialised := true })
  | register (hr : HostReady s) (hi : s.initialised = true) (n : Fin 32) (h : HandlerId) :
      Move s (latch { s with slots := s.slots.set n.val (.holds (.registered h)) })
  | dispatch (hr : HostReady s) (hi : s.initialised = true) : Move s (latch { s with engine := .picRead .host })
  | fault (k : Fault) : Move s (recordFault k s)
  | line (k : Nat) (b : Bool) : Move s (latch { s with irqLines := setLine s.irqLines k b })
  | tick : Move s (latch (timerTick s))
  | trap (he : s.engine = .idle) (cause epc : Word) (regs : Snapshot) :
      Move s (latch { s with cause := cause, epc := epc, snap := regs, engine := .decode })

/-! ### Each shared operation, as moves -/

theorem busRead_next {r : BusReg} (h : busRead r s = .next t) : s.faults = [] ∧ Move s t := by
  obtain ⟨hr, rfl⟩ := oneStep_next h
  exact ⟨hr.1, .read r hr⟩

theorem busWrite_next {r : BusReg} {v : Word} (h : busWrite r v s = .next t) : s.faults = [] ∧ Move s t := by
  obtain ⟨hr, rfl⟩ := oneStep_next h
  exact ⟨hr.1, .write r v hr⟩

theorem quiet_next (h : oneStep id s = .next t) : s.faults = [] ∧ Move s t := by
  obtain ⟨hr, rfl⟩ := oneStep_next h
  exact ⟨hr.1, .quiet hr⟩

theorem readModifyWrite_move {op : Instr} {r : BusReg} {f : Word → Word} (h : readModifyWrite op r f s = .next t)
    (hs : ∀ c, Started s ⟨op, c⟩) : s.faults = [] ∧ Move s t := by
  obtain ⟨hf, a, ha, ⟨hn, rfl⟩ | ⟨c, hc, rfl⟩⟩ := readModifyWrite_next h
  · exact ⟨hf, .opRead r ha hn (hs _)⟩
  · exact ⟨hf, .opWrite r _ ha hc⟩

theorem hostReady_of_main (h : s.faults = [] ∧ ∃ a, s.issuer = some a ∧ s.inFlight a = none) (hc : s.context = .main) :
    HostReady s := by
  obtain ⟨hf, a, ha, hn⟩ := h
  unfold State.context at hc
  unfold State.issuer at ha
  split at hc
  · next he => rw [he] at ha; cases ha; exact ⟨hf, he, hn⟩
  · next he => rw [he] at ha; cases ha
  all_goals cases hc

theorem presentTrap_move {cause epc : Word} {regs : Snapshot} (h : presentTrap cause epc regs s = .next t) :
    s.faults = [] ∧ Move s t := by
  obtain ⟨hf, ⟨he, rfl⟩ | rfl⟩ := presentTrap_next h
  · exact ⟨hf, .trap he cause epc regs⟩
  · exact ⟨hf, .fault _⟩

/-- A driver operation that needs `pic.init`: its fault, or what it does once initialised. -/
theorem afterInit_move {k : Result} (h : afterInit s k = .next t)
    (hk : s.initialised = true → k = .next t → s.faults = [] ∧ Move s t) : s.faults = [] ∧ Move s t := by
  obtain ⟨hf, ⟨hi, h⟩ | ⟨-, rfl⟩⟩ := afterInit_next h
  · exact hk hi h
  · exact ⟨hf, .fault _⟩

theorem lineOperand_some {line : Word} {n : Fin 32} (h : lineOperand line = some n) : line.toNat < 32 ∧ n.val = line.toNat := by
  unfold lineOperand at h
  split at h
  · next hl => cases h; exact ⟨hl, rfl⟩
  · cases h

theorem execPicInit_next (h : execPicInit s = .next t) : s.faults = [] ∧ Move s t := by
  obtain ⟨hf, ⟨hc, h⟩ | ⟨-, rfl⟩⟩ := outsideTrap_next h
  · obtain ⟨hr, rfl⟩ := oneStep_next h
    exact ⟨hf, .init (hostReady_of_main hr hc)⟩
  · exact ⟨hf, .fault _⟩

theorem execPicRegisterHandler_next {line : Word} {id : HandlerId} (h : execPicRegisterHandler line id s = .next t) :
    s.faults = [] ∧ Move s t := by
  refine afterInit_move h fun hi h => ?_
  obtain ⟨hf, ⟨hc, h⟩ | ⟨-, rfl⟩⟩ := outsideTrap_next h
  · obtain ⟨hr, rfl⟩ := oneStep_next h
    refine ⟨hf, ?_⟩
    cases hl : lineOperand line with
    | none => exact .quiet hr
    | some n => exact .register (hostReady_of_main hr hc) hi n id
  · exact ⟨hf, .fault _⟩

theorem execPicEnableInterrupt_next {line : Word} (h : execPicEnableInterrupt line s = .next t) :
    s.faults = [] ∧ Move s t := by
  refine afterInit_move h fun hi h => ?_
  split at h
  · next n hn => exact readModifyWrite_move h fun c => ⟨decide_eq_true (lineOperand_some hn).1, fun _ => hi⟩
  · exact quiet_next h

theorem execPicDisableInterrupt_next {line : Word} (h : execPicDisableInterrupt line s = .next t) :
    s.faults = [] ∧ Move s t := by
  refine afterInit_move h fun hi h => ?_
  split at h
  · next n hn => exact readModifyWrite_move h fun c => ⟨decide_eq_true (lineOperand_some hn).1, fun _ => hi⟩
  · exact quiet_next h

theorem execPicSetPriority_next {line p : Word} (h : execPicSetPriority line p s = .next t) : s.faults = [] ∧ Move s t := by
  refine afterInit_move h fun _ h => ?_
  split at h
  · exact busWrite_next h
  · exact quiet_next h

theorem execPicDispatch_next (h : execPicDispatch s = .next t) : s.faults = [] ∧ Move s t := by
  refine afterInit_move h fun hi h => ?_
  split at h
  · next he =>
    obtain ⟨hr, rfl⟩ := oneStep_next h
    exact ⟨hr.1, .dispatch (hostReady_of_main hr (by simp [State.context, he])) hi⟩
  · next hne =>
    cases h
    exact ⟨(unhalted_next ‹_›).1, .fault _⟩

theorem execPicMasterEnable_next (h : execPicMasterEnable s = .next t) : s.faults = [] ∧ Move s t :=
  afterInit_move h fun hi h => readModifyWrite_move h fun _ => ⟨rfl, fun _ => hi⟩

theorem execPicMasterDisable_next (h : execPicMasterDisable s = .next t) : s.faults = [] ∧ Move s t :=
  afterInit_move h fun hi h => readModifyWrite_move h fun _ => ⟨rfl, fun _ => hi⟩

/-- The timer's setters: two transactions on T_CTRL, with no initialisation. -/
theorem timerSetter_next {op : Instr} {f : Word → Word} (h : readModifyWrite op .tCtrl f s = .next t)
    (h2 : twoTransactions op = true) (hn : needsInit op = false) : s.faults = [] ∧ Move s t :=
  readModifyWrite_move h fun _ => ⟨h2, fun h => by simp [hn] at h⟩

theorem execEvLine_next {n : Word} {b : Bool} (h : execEvLine n b s = .next t) : s.faults = [] ∧ Move s t := by
  obtain ⟨hf, h⟩ := unfaulted_next h
  split at h
  · cases h; exact ⟨hf, .line _ b⟩
  · cases h

theorem execEvTick_next (h : execEvTick s = .next t) : s.faults = [] ∧ Move s t := by
  obtain ⟨hf, h⟩ := unfaulted_next h
  cases h
  exact ⟨hf, .tick⟩

/-- Every operation that answers a next state makes one of the moves, in a run without a fault. -/
theorem exec_next {i : Instr} (h : exec i s = .next t) : s.faults = [] ∧ Move s t := by
  cases i with
  | rdPicStatus => exact busRead_next h
  | wrPicStatus => exact busWrite_next h
  | rdPicEnable => exact busRead_next h
  | wrPicEnable => exact busWrite_next h
  | rdPicPending => exact busRead_next h
  | wrPicPending => exact busWrite_next h
  | rdPicAck => exact busRead_next h
  | wrPicAck => exact busWrite_next h
  | rdPicPrio0 => exact busRead_next h
  | wrPicPrio0 => exact busWrite_next h
  | rdPicPrio1 => exact busRead_next h
  | wrPicPrio1 => exact busWrite_next h
  | rdPicPrio2 => exact busRead_next h
  | wrPicPrio2 => exact busWrite_next h
  | rdPicPrio3 => exact busRead_next h
  | wrPicPrio3 => exact busWrite_next h
  | rdPicPrio4 => exact busRead_next h
  | wrPicPrio4 => exact busWrite_next h
  | rdPicPrio5 => exact busRead_next h
  | wrPicPrio5 => exact busWrite_next h
  | rdPicPrio6 => exact busRead_next h
  | wrPicPrio6 => exact busWrite_next h
  | rdPicPrio7 => exact busRead_next h
  | wrPicPrio7 => exact busWrite_next h
  | rdPicPrio8 => exact busRead_next h
  | wrPicPrio8 => exact busWrite_next h
  | rdPicPrio9 => exact busRead_next h
  | wrPicPrio9 => exact busWrite_next h
  | rdPicPrio10 => exact busRead_next h
  | wrPicPrio10 => exact busWrite_next h
  | rdPicPrio11 => exact busRead_next h
  | wrPicPrio11 => exact busWrite_next h
  | rdPicPrio12 => exact busRead_next h
  | wrPicPrio12 => exact busWrite_next h
  | rdPicPrio13 => exact busRead_next h
  | wrPicPrio13 => exact busWrite_next h
  | rdPicPrio14 => exact busRead_next h
  | wrPicPrio14 => exact busWrite_next h
  | rdPicPrio15 => exact busRead_next h
  | wrPicPrio15 => exact busWrite_next h
  | rdPicPrio16 => exact busRead_next h
  | wrPicPrio16 => exact busWrite_next h
  | rdPicPrio17 => exact busRead_next h
  | wrPicPrio17 => exact busWrite_next h
  | rdPicPrio18 => exact busRead_next h
  | wrPicPrio18 => exact busWrite_next h
  | rdPicPrio19 => exact busRead_next h
  | wrPicPrio19 => exact busWrite_next h
  | rdPicPrio20 => exact busRead_next h
  | wrPicPrio20 => exact busWrite_next h
  | rdPicPrio21 => exact busRead_next h
  | wrPicPrio21 => exact busWrite_next h
  | rdPicPrio22 => exact busRead_next h
  | wrPicPrio22 => exact busWrite_next h
  | rdPicPrio23 => exact busRead_next h
  | wrPicPrio23 => exact busWrite_next h
  | rdPicPrio24 => exact busRead_next h
  | wrPicPrio24 => exact busWrite_next h
  | rdPicPrio25 => exact busRead_next h
  | wrPicPrio25 => exact busWrite_next h
  | rdPicPrio26 => exact busRead_next h
  | wrPicPrio26 => exact busWrite_next h
  | rdPicPrio27 => exact busRead_next h
  | wrPicPrio27 => exact busWrite_next h
  | rdPicPrio28 => exact busRead_next h
  | wrPicPrio28 => exact busWrite_next h
  | rdPicPrio29 => exact busRead_next h
  | wrPicPrio29 => exact busWrite_next h
  | rdPicPrio30 => exact busRead_next h
  | wrPicPrio30 => exact busWrite_next h
  | rdPicPrio31 => exact busRead_next h
  | wrPicPrio31 => exact busWrite_next h
  | rdTmrCtrl => exact busRead_next h
  | wrTmrCtrl => exact busWrite_next h
  | rdTmrCount => exact busRead_next h
  | wrTmrCount => exact busWrite_next h
  | rdTmrReload => exact busRead_next h
  | wrTmrReload => exact busWrite_next h
  | rdTmrMatch => exact busRead_next h
  | wrTmrMatch => exact busWrite_next h
  | rdTmrIen => exact busRead_next h
  | wrTmrIen => exact busWrite_next h
  | rdTmrIpend => exact busRead_next h
  | wrTmrIpend => exact busWrite_next h
  | rdTmrIack => exact busRead_next h
  | wrTmrIack => exact busWrite_next h
  | picInit => exact execPicInit_next h
  | picRegisterHandler => exact execPicRegisterHandler_next h
  | picMasterEnable => exact execPicMasterEnable_next h
  | picMasterDisable => exact execPicMasterDisable_next h
  | picEnableInterrupt => exact execPicEnableInterrupt_next h
  | picDisableInterrupt => exact execPicDisableInterrupt_next h
  | picSetPriority => exact execPicSetPriority_next h
  | picDispatch => exact execPicDispatch_next h
  | tmrSetPrescaler => exact timerSetter_next h rfl rfl
  | tmrEnableAutoreload => exact timerSetter_next h rfl rfl
  | tmrDisableAutoreload => exact timerSetter_next h rfl rfl
  | tmrEnablePrescaler => exact timerSetter_next h rfl rfl
  | tmrDisablePrescaler => exact timerSetter_next h rfl rfl
  | tmrEnableInterrupts => exact timerSetter_next h rfl rfl
  | tmrDisableInterrupts => exact timerSetter_next h rfl rfl
  | tmrStart => exact timerSetter_next h rfl rfl
  | tmrStop => exact timerSetter_next h rfl rfl
  | tmrSetCounter => exact busWrite_next h
  | tmrSetReload => exact busWrite_next h
  | tmrSetMatch => exact busWrite_next h
  | tmrEnableIndividualInterrupts => exact busWrite_next h
  | tmrGetInterruptsPending => exact busRead_next h
  | tmrAcknowledgeInterrupts => exact busWrite_next h
  | evLine => exact execEvLine_next h
  | evTick => exact execEvTick_next h
  | trapExtIrq => exact presentTrap_move h
  | trapEcallM => exact presentTrap_move h
  | trapHaltIrq => exact presentTrap_move h
  | trapHaltExc => exact presentTrap_move h

/-! ### The handler table (R35) -/

theorem busRead_slots {r : BusReg} (h : busRead r s = .next t) : t.slots = s.slots := by
  obtain ⟨-, rfl⟩ := oneStep_next h; rfl

theorem busWrite_slots {r : BusReg} {v : Word} (h : busWrite r v s = .next t) : t.slots = s.slots := by
  obtain ⟨-, rfl⟩ := oneStep_next h; simp [memWrite]

theorem quiet_slots (h : oneStep id s = .next t) : t.slots = s.slots := by
  obtain ⟨-, rfl⟩ := oneStep_next h; rfl

theorem readModifyWrite_slots {op : Instr} {r : BusReg} {f : Word → Word} (h : readModifyWrite op r f s = .next t) :
    t.slots = s.slots := by
  obtain ⟨-, a, -, ⟨-, rfl⟩ | ⟨c, -, rfl⟩⟩ := readModifyWrite_next h
  · cases a <;> rfl
  · cases a <;> simp [memWrite]

theorem presentTrap_slots {cause epc : Word} {regs : Snapshot} (h : presentTrap cause epc regs s = .next t) :
    t.slots = s.slots := by
  obtain ⟨-, ⟨-, rfl⟩ | rfl⟩ := presentTrap_next h <;> rfl

theorem afterInit_slots {k : Result} (h : afterInit s k = .next t) (hk : k = .next t → t.slots = s.slots) :
    t.slots = s.slots := by
  obtain ⟨-, ⟨-, h⟩ | ⟨-, rfl⟩⟩ := afterInit_next h
  · exact hk h
  · rfl

/-- No operation but `pic.init` and `pic.register_handler` writes the handler table (R35). -/
theorem exec_slots {i : Instr} (h : exec i s = .next t) (hi : i ≠ .picInit)
    (hr : ∀ line id, i ≠ .picRegisterHandler line id) : t.slots = s.slots := by
  cases i with
  | picInit => exact absurd rfl hi
  | picRegisterHandler line id => exact absurd rfl (hr line id)
  | picMasterEnable => exact afterInit_slots h readModifyWrite_slots
  | picMasterDisable => exact afterInit_slots h readModifyWrite_slots
  | picEnableInterrupt =>
    refine afterInit_slots h fun h => ?_
    split at h
    · exact readModifyWrite_slots h
    · exact quiet_slots h
  | picDisableInterrupt =>
    refine afterInit_slots h fun h => ?_
    split at h
    · exact readModifyWrite_slots h
    · exact quiet_slots h
  | picSetPriority =>
    refine afterInit_slots h fun h => ?_
    split at h
    · exact busWrite_slots h
    · exact quiet_slots h
  | picDispatch =>
    refine afterInit_slots h fun h => ?_
    split at h
    · obtain ⟨-, rfl⟩ := oneStep_next h; rfl
    · cases h; rfl
  | evLine =>
    obtain ⟨-, h⟩ := unfaulted_next h
    split at h
    · cases h; rfl
    · cases h
  | evTick => obtain ⟨-, h⟩ := unfaulted_next h; cases h; exact timerTick_slots s
  | rdPicStatus | rdPicEnable | rdPicPending | rdPicAck | rdPicPrio0 | rdPicPrio1 | rdPicPrio2 | rdPicPrio3
  | rdPicPrio4 | rdPicPrio5 | rdPicPrio6 | rdPicPrio7 | rdPicPrio8 | rdPicPrio9 | rdPicPrio10 | rdPicPrio11
  | rdPicPrio12 | rdPicPrio13 | rdPicPrio14 | rdPicPrio15 | rdPicPrio16 | rdPicPrio17 | rdPicPrio18 | rdPicPrio19
  | rdPicPrio20 | rdPicPrio21 | rdPicPrio22 | rdPicPrio23 | rdPicPrio24 | rdPicPrio25 | rdPicPrio26 | rdPicPrio27
  | rdPicPrio28 | rdPicPrio29 | rdPicPrio30 | rdPicPrio31 | rdTmrCtrl | rdTmrCount | rdTmrReload | rdTmrMatch
  | rdTmrIen | rdTmrIpend | rdTmrIack | tmrGetInterruptsPending =>
    exact busRead_slots h
  | wrPicStatus | wrPicEnable | wrPicPending | wrPicAck | wrPicPrio0 | wrPicPrio1 | wrPicPrio2 | wrPicPrio3
  | wrPicPrio4 | wrPicPrio5 | wrPicPrio6 | wrPicPrio7 | wrPicPrio8 | wrPicPrio9 | wrPicPrio10 | wrPicPrio11
  | wrPicPrio12 | wrPicPrio13 | wrPicPrio14 | wrPicPrio15 | wrPicPrio16 | wrPicPrio17 | wrPicPrio18 | wrPicPrio19
  | wrPicPrio20 | wrPicPrio21 | wrPicPrio22 | wrPicPrio23 | wrPicPrio24 | wrPicPrio25 | wrPicPrio26 | wrPicPrio27
  | wrPicPrio28 | wrPicPrio29 | wrPicPrio30 | wrPicPrio31 | wrTmrCtrl | wrTmrCount | wrTmrReload | wrTmrMatch
  | wrTmrIen | wrTmrIpend | wrTmrIack | tmrSetCounter | tmrSetReload | tmrSetMatch | tmrEnableIndividualInterrupts
  | tmrAcknowledgeInterrupts =>
    exact busWrite_slots h
  | tmrSetPrescaler | tmrEnableAutoreload | tmrDisableAutoreload | tmrEnablePrescaler | tmrDisablePrescaler
  | tmrEnableInterrupts | tmrDisableInterrupts | tmrStart | tmrStop =>
    exact readModifyWrite_slots h
  | trapExtIrq | trapEcallM | trapHaltIrq | trapHaltExc =>
    exact presentTrap_slots h

/-- The steps of the trap engine, with the engine state each starts from. -/
inductive EngineMove (s : State) : State → Prop
  | decode (he : s.engine = .decode) : EngineMove s (engineDecode s)
  | picRead {o : Origin} (he : s.engine = .picRead o) : EngineMove s (enginePicRead o s)
  | handlerDone {o : Origin} {line : Fin 32} {c : Callback} (he : s.engine = .invoking o line c)
      (hn : s.issuer = some .handler → s.handlerOp = none) : EngineMove s (engineHandlerDone o line s)
  | ack {o : Origin} {line : Fin 32} (he : s.engine = .acking o line) : EngineMove s (engineAck o line s)
  | syscall (he : s.engine = .syscall) (r : Word) (n : Nat) : EngineMove s (engineSyscall r { s with draws := n })
  | trapDone (he : s.engine = .returning) : EngineMove s (trapReturn s)

/-- Phase 1: the fault of an uninitialised slot, or the start of the handler the slot holds. -/
theorem enginePicRead_cases (o : Origin) (s : State) :
    (s.slots[lineOfStatus (readReg .status s)] = .uninit ∧
      enginePicRead o s = recordFault .uninitSlot (memRead .status s)) ∨
    ∃ line c, line = lineOfStatus (readReg .status s) ∧ s.slots[line] = .holds c ∧
      enginePicRead o s = latch (emit (.invoke line c) { memRead .status s with engine := .invoking o line c }) := by
  unfold enginePicRead
  dsimp only
  split
  · next h => exact .inl ⟨h, rfl⟩
  · next c h => exact .inr ⟨_, c, rfl, h, rfl⟩

theorem finishOp_next {o : Option InFlight} (h : finishOp o s = .next t) : t = s ∨ Move s t := by
  unfold finishOp at h
  split at h
  · exact .inr (exec_next h).2
  · cases h; exact .inl rfl

/-- The block's own step: nothing, the operation in progress, or a step of the engine. -/
theorem internalStep_next (h : internalStep s = .next t) : t = s ∨ Move s t ∨ EngineMove s t := by
  unfold internalStep at h
  split at h
  · exact (finishOp_next h).imp_right .inl
  · cases h; exact .inr (.inr (.decode ‹_›))
  · cases h; exact .inr (.inr (.picRead ‹_›))
  · next he => cases h; exact .inr (.inr (.handlerDone he fun hi => by simp [State.issuer, he] at hi))
  · exact (finishOp_next h).imp_right .inl
  · cases h; exact .inr (.inr (.ack ‹_›))
  · cases h; exact .inr (.inr (.syscall ‹_› _ _))
  · cases h; exact .inr (.inr (.trapDone ‹_›))
  · cases h; exact .inl rfl

/-- What a program's operation can do in its turn: the block steps first, nothing happens, or it is performed. -/
theorem inTurn_next {a : Agent} {k : Result} (h : inTurn a s k = .next t) :
    internalStep s = .next t ∨ t = s ∨ k = .next t := by
  unfold inTurn at h
  split at h
  · exact .inl h
  · split at h
    · cases h; exact .inr (.inl rfl)
    · cases h
    all_goals exact .inr (.inr h)

/-- The program that may issue operations has its turn. -/
theorem inTurn_issuer {a : Agent} (k : Result) (hp : s.internalPending = false) (ha : s.issuer = some a) :
    inTurn a s k = k := by
  unfold inTurn
  rw [hp, ha]
  cases a <;> rfl

/-- The block steps before any program's operation. -/
theorem inTurn_pending {a : Agent} (k : Result) (hp : s.internalPending = true) : inTurn a s k = internalStep s := by
  unfold inTurn
  rw [hp]
  rfl

/-- What a step can do: with the stimuli that are left, nothing, an operation's move, or the engine's. -/
theorem step_next (h : step s = .next t) :
    s.faults = [] ∧ ∃ ins, t = { s with inputs := ins } ∨ Move { s with inputs := ins } t ∨ EngineMove { s with inputs := ins } t := by
  obtain ⟨hf, h⟩ := unfaulted_next h
  refine ⟨hf, ?_⟩
  have internal : internalStep s = .next t → _ := fun h => (⟨s.inputs, internalStep_next h⟩ :
    ∃ ins, t = { s with inputs := ins } ∨ Move { s with inputs := ins } t ∨ EngineMove { s with inputs := ins } t)
  split at h
  · exact internal h
  · exact ⟨_, internalStep_next h⟩
  · next rest _ =>
    unfold completion at h
    split at h
    · exact internal h
    · next hp =>
      split at h
      · next he =>
        cases h
        refine ⟨rest, .inr (.inr (.handlerDone (s := { s with inputs := rest }) he fun _ => ?_))⟩
        simpa [State.internalPending, he] using hp
      · cases h
  · next v rest _ =>
    unfold oracleAnswer at h
    split at h
    · next he => cases h; exact ⟨rest, .inr (.inr (.syscall (s := { s with inputs := rest }) he v s.draws))⟩
    · split at h
      · exact internal h
      · cases h
  · next a r rest _ =>
    split at h
    · next i _ =>
      unfold issue at h
      split at h
      · exact ⟨rest, .inr (.inl (exec_next h).2)⟩
      · rcases inTurn_next h with h | rfl | h
        · exact internal h
        · exact ⟨_, .inl rfl⟩
        · exact ⟨rest, .inr (.inl (exec_next h).2)⟩
    · next e _ =>
      unfold reject at h
      split at h
      · rcases inTurn_next h with h | rfl | h
        · exact internal h
        · exact ⟨_, .inl rfl⟩
        · obtain ⟨-, k, rfl⟩ := busFault_next h
          exact ⟨rest, .inr (.inl (.fault k))⟩
      all_goals cases h

/-! ### A step, case by case -/

theorem step_of_nil (hf : s.faults = []) (hi : s.inputs = []) : step s = internalStep s := by
  unfold step scheduledStep
  rw [unfaulted_clear hf, hi]

theorem step_of_turn {rest : List Stimulus} (hf : s.faults = []) (hi : s.inputs = .turn :: rest) :
    step s = internalStep { s with inputs := rest } := by
  unfold step scheduledStep
  rw [unfaulted_clear hf, hi]

theorem step_of_request {a : Agent} {r : Request} {rest : List Stimulus} {i : Instr} (hf : s.faults = [])
    (hi : s.inputs = .request a r :: rest) (hd : decode s.params r = .ok i) : step s = issue a i rest s := by
  unfold step scheduledStep
  rw [unfaulted_clear hf, hi]
  simp only [hd]

theorem step_of_reject {a : Agent} {r : Request} {rest : List Stimulus} {e : Reject} (hf : s.faults = [])
    (hi : s.inputs = .request a r :: rest) (hd : decode s.params r = .error e) : step s = reject a e rest s := by
  unfold step scheduledStep
  rw [unfaulted_clear hf, hi]
  simp only [hd]

theorem step_of_handlerDone {rest : List Stimulus} (hf : s.faults = []) (hi : s.inputs = .handlerDone :: rest) :
    step s = completion rest s := by
  unfold step scheduledStep
  rw [unfaulted_clear hf, hi]

theorem step_of_syscallReturn {v : Word} {rest : List Stimulus} (hf : s.faults = [])
    (hi : s.inputs = .syscallReturn v :: rest) : step s = oracleAnswer v rest s := by
  unfold step scheduledStep
  rw [unfaulted_clear hf, hi]

/-- In a run that has recorded a fault there is no step. -/
theorem step_faulted (hf : s.faults ≠ []) : step s = .refused .quiescent :=
  unfaulted_faulted hf

/-! ### How a run ends (R257) -/

theorem EndsWell.not_endsBadly (h : EndsWell s) : ¬ EndsBadly s := by
  rintro (hf | ⟨r, he⟩)
  · exact hf h.2.2.2
  · cases h.2.2.1.symm.trans he

/-- What is left in the queue does not deny a good end where none of it is the host program's operation. -/
theorem hostIssuedLast_iff :
    s.hostIssuedLast = true ↔ ∀ x ∈ s.inputs, Stimulus.hostOperation s.params x = false := by
  simp [State.hostIssuedLast]

theorem run_of_waiting (h : step s = .next s) (n : Nat) : Host.Core.run Sys2Proof.core n s = .next s := by
  have h' : Sys2Proof.core.step s = .next s := h
  induction n with
  | zero => rfl
  | succ k ih => simp only [Host.Core.run, h', ih]

/-- A state that waits for ever, at no end, hangs. -/
theorem hangs_of_waiting (h : step s = .next s) (hw : ¬ EndsWell s) (hb : ¬ EndsBadly s) : Hangs s :=
  fun n => ⟨s, run_of_waiting h n, hw, hb⟩

/-- A run whose first step answers `t` goes on from `t`. -/
theorem run_next {k : Nat} (h : step s = .next t) :
    Host.Core.run Sys2Proof.core (k + 1) s = Host.Core.run Sys2Proof.core k t := by
  have h' : Sys2Proof.core.step s = .next t := h
  simp only [Host.Core.run, h']

theorem internalStep_idle (he : s.engine = .idle) : internalStep s = finishOp s.hostOp s := by
  unfold internalStep; rw [he]

theorem internalStep_decode (he : s.engine = .decode) : internalStep s = .next (engineDecode s) := by
  unfold internalStep; rw [he]

theorem internalStep_picRead {o : Origin} (he : s.engine = .picRead o) : internalStep s = .next (enginePicRead o s) := by
  unfold internalStep; rw [he]

theorem internalStep_default {o : Origin} {line : Fin 32} (he : s.engine = .invoking o line .defaultHandler) :
    internalStep s = .next (engineHandlerDone o line s) := by
  unfold internalStep; rw [he]

theorem internalStep_registered {o : Origin} {line : Fin 32} {h : HandlerId}
    (he : s.engine = .invoking o line (.registered h)) : internalStep s = finishOp s.handlerOp s := by
  unfold internalStep; rw [he]

theorem internalStep_acking {o : Origin} {line : Fin 32} (he : s.engine = .acking o line) :
    internalStep s = .next (engineAck o line s) := by
  unfold internalStep; rw [he]

theorem internalStep_syscall (he : s.engine = .syscall) : internalStep s = .next (engineSyscallDraw s) := by
  unfold internalStep; rw [he]

theorem internalStep_returning (he : s.engine = .returning) : internalStep s = .next (trapReturn s) := by
  unfold internalStep; rw [he]

theorem internalStep_halted {r : HaltReason} (he : s.engine = .halted r) : internalStep s = .next s := by
  unfold internalStep; rw [he]

end Sys2Proof.Machine
end

