-- ==== Sys2Proof/Tests/Slice0.lean ====
section
/-! SUPPORT. The model's own tests: the checks of WellFormed, a word of every operation written out from the spec's
encoding, vectors of 95_test_vectors.md one step at a time, and for every statement of the obligations a named state that
meets its hypotheses. -/

namespace Sys2Proof.Tests

open Sys2Proof.Machine

/-! ### Small states -/

/-- R9's defaults with two legal bases. -/
def demoParams : Params where
  picBase := 0x10000000#32
  timerBase := 0x10001000#32
  mieBit := 31
  prioOrder := .higherWins
  retReg := 10
  prescaleDiv := #v[1, 2, 4, 8, 16, 32, 64, 128]

/-- Reset with those parameters. -/
def demo : State := { State.reset with params := demoParams }

/-- After `pic.init`. -/
def inited : State :=
  { demo with initialised := true, slots := Vector.replicate 32 (.holds .defaultHandler) }

/-- Inside the registered handler of line 3, in a trap's dispatch. -/
def inHandler : State :=
  { inited with engine := .invoking .trap 3 (.registered 0x77#32), cause := 0x8000000F#32 }

/-- A run that has recorded a fault. -/
def faulted : State := { demo with faults := [.badWidth] }

/-- A halted block. -/
def haltedState : State := { demo with engine := .halted (.unknownInterrupt 0x7FFFFFFF#32) }

/-- The snapshot of program P3: register i holds i. -/
def regs : Snapshot := Vector.ofFn fun i : Fin 32 => BitVec.ofNat 32 i.val

/-- The next state, if there is one. -/
def after : Result → Option State
  | .next t => some t
  | .fault _ => none
  | .refused _ => none

/-- The refusal, if there is one. -/
def refusal : Result → Option Refusal
  | .next _ => none
  | .fault _ => none
  | .refused r => some r

/-- What a request decodes to. -/
def decoded (r : Request) : Option Instr := (decode demoParams r).toOption

/-! ### WellFormed: an ill-formed operation for each check -/

theorem test_wf_line_low : Instr.wellFormed (.evLine 0#32 true) = false := by decide
theorem test_wf_line_high : Instr.wellFormed (.evLine 32#32 true) = false := by decide
theorem test_wf_irq : Instr.wellFormed (.trapHaltIrq 15#31 0#32 regs) = false := by decide
theorem test_wf_exc : Instr.wellFormed (.trapHaltExc 11#31 0#32 regs) = false := by decide

/-! ### Decode: every operation's word, from the spec's encodings -/

/-- R83: WE = 0, BLK, OFF. -/
theorem test_decode_reads_0 :
    ([0b0000000000, 0b0000000100, 0b0000001000, 0b0000001100, 0b0000010000, 0b0000010100, 0b0000011000, 0b0000011100, 0b0000100000, 0b0000100100, 0b0000101000] : List Nat).map
      (fun w => decoded (.busreq [BitVec.ofNat 32 w])) =
    [some .rdPicStatus, some .rdPicEnable, some .rdPicPending, some .rdPicAck, some .rdPicPrio0, some .rdPicPrio1, some .rdPicPrio2, some .rdPicPrio3, some .rdPicPrio4, some .rdPicPrio5, some .rdPicPrio6] := by decide

/-- R83: WE = 0, BLK, OFF. -/
theorem test_decode_reads_1 :
    ([0b0000101100, 0b0000110000, 0b0000110100, 0b0000111000, 0b0000111100, 0b0001000000, 0b0001000100, 0b0001001000, 0b0001001100, 0b0001010000, 0b0001010100] : List Nat).map
      (fun w => decoded (.busreq [BitVec.ofNat 32 w])) =
    [some .rdPicPrio7, some .rdPicPrio8, some .rdPicPrio9, some .rdPicPrio10, some .rdPicPrio11, some .rdPicPrio12, some .rdPicPrio13, some .rdPicPrio14, some .rdPicPrio15, some .rdPicPrio16, some .rdPicPrio17] := by decide

/-- R83: WE = 0, BLK, OFF. -/
theorem test_decode_reads_2 :
    ([0b0001011000, 0b0001011100, 0b0001100000, 0b0001100100, 0b0001101000, 0b0001101100, 0b0001110000, 0b0001110100, 0b0001111000, 0b0001111100, 0b0010000000] : List Nat).map
      (fun w => decoded (.busreq [BitVec.ofNat 32 w])) =
    [some .rdPicPrio18, some .rdPicPrio19, some .rdPicPrio20, some .rdPicPrio21, some .rdPicPrio22, some .rdPicPrio23, some .rdPicPrio24, some .rdPicPrio25, some .rdPicPrio26, some .rdPicPrio27, some .rdPicPrio28] := by decide

/-- R83: WE = 0, BLK, OFF. -/
theorem test_decode_reads_3 :
    ([0b0010000100, 0b0010001000, 0b0010001100, 0b0100000000, 0b0100000100, 0b0100001000, 0b0100001100, 0b0100010000, 0b0100010100, 0b0100011000] : List Nat).map
      (fun w => decoded (.busreq [BitVec.ofNat 32 w])) =
    [some .rdPicPrio29, some .rdPicPrio30, some .rdPicPrio31, some .rdTmrCtrl, some .rdTmrCount, some .rdTmrReload, some .rdTmrMatch, some .rdTmrIen, some .rdTmrIpend, some .rdTmrIack] := by decide

/-- R83: WE = 1, BLK, OFF, with the write data 0x9. -/
theorem test_decode_writes_0 :
    ([0b1000000000, 0b1000000100, 0b1000001000, 0b1000001100, 0b1000010000, 0b1000010100, 0b1000011000, 0b1000011100, 0b1000100000, 0b1000100100, 0b1000101000] : List Nat).map
      (fun w => decoded (.busreq [BitVec.ofNat 32 w, 0x9#32])) =
    [some (.wrPicStatus 0x9#32), some (.wrPicEnable 0x9#32), some (.wrPicPending 0x9#32), some (.wrPicAck 0x9#32), some (.wrPicPrio0 0x9#32), some (.wrPicPrio1 0x9#32), some (.wrPicPrio2 0x9#32), some (.wrPicPrio3 0x9#32), some (.wrPicPrio4 0x9#32), some (.wrPicPrio5 0x9#32), some (.wrPicPrio6 0x9#32)] := by decide

/-- R83: WE = 1, BLK, OFF, with the write data 0x9. -/
theorem test_decode_writes_1 :
    ([0b1000101100, 0b1000110000, 0b1000110100, 0b1000111000, 0b1000111100, 0b1001000000, 0b1001000100, 0b1001001000, 0b1001001100, 0b1001010000, 0b1001010100] : List Nat).map
      (fun w => decoded (.busreq [BitVec.ofNat 32 w, 0x9#32])) =
    [some (.wrPicPrio7 0x9#32), some (.wrPicPrio8 0x9#32), some (.wrPicPrio9 0x9#32), some (.wrPicPrio10 0x9#32), some (.wrPicPrio11 0x9#32), some (.wrPicPrio12 0x9#32), some (.wrPicPrio13 0x9#32), some (.wrPicPrio14 0x9#32), some (.wrPicPrio15 0x9#32), some (.wrPicPrio16 0x9#32), some (.wrPicPrio17 0x9#32)] := by decide

/-- R83: WE = 1, BLK, OFF, with the write data 0x9. -/
theorem test_decode_writes_2 :
    ([0b1001011000, 0b1001011100, 0b1001100000, 0b1001100100, 0b1001101000, 0b1001101100, 0b1001110000, 0b1001110100, 0b1001111000, 0b1001111100, 0b1010000000] : List Nat).map
      (fun w => decoded (.busreq [BitVec.ofNat 32 w, 0x9#32])) =
    [some (.wrPicPrio18 0x9#32), some (.wrPicPrio19 0x9#32), some (.wrPicPrio20 0x9#32), some (.wrPicPrio21 0x9#32), some (.wrPicPrio22 0x9#32), some (.wrPicPrio23 0x9#32), some (.wrPicPrio24 0x9#32), some (.wrPicPrio25 0x9#32), some (.wrPicPrio26 0x9#32), some (.wrPicPrio27 0x9#32), some (.wrPicPrio28 0x9#32)] := by decide

/-- R83: WE = 1, BLK, OFF, with the write data 0x9. -/
theorem test_decode_writes_3 :
    ([0b1010000100, 0b1010001000, 0b1010001100, 0b1100000000, 0b1100000100, 0b1100001000, 0b1100001100, 0b1100010000, 0b1100010100, 0b1100011000] : List Nat).map
      (fun w => decoded (.busreq [BitVec.ofNat 32 w, 0x9#32])) =
    [some (.wrPicPrio29 0x9#32), some (.wrPicPrio30 0x9#32), some (.wrPicPrio31 0x9#32), some (.wrTmrCtrl 0x9#32), some (.wrTmrCount 0x9#32), some (.wrTmrReload 0x9#32), some (.wrTmrMatch 0x9#32), some (.wrTmrIen 0x9#32), some (.wrTmrIpend 0x9#32), some (.wrTmrIack 0x9#32)] := by decide

/-- R84: the 8-bit id, then the operands in R96's order. -/
theorem test_decode_pic :
    decoded (.op [0b00000001#32]) = some (.picInit) ∧
    decoded (.op [0b00000010#32, 0x3#32, 0x1#32]) = some (.picRegisterHandler 0x3#32 0x1#32) ∧
    decoded (.op [0b00000011#32]) = some (.picMasterEnable) ∧
    decoded (.op [0b00000100#32]) = some (.picMasterDisable) ∧
    decoded (.op [0b00000101#32, 0x3#32]) = some (.picEnableInterrupt 0x3#32) ∧
    decoded (.op [0b00000110#32, 0x3#32]) = some (.picDisableInterrupt 0x3#32) ∧
    decoded (.op [0b00000111#32, 0x3#32, 0x1#32]) = some (.picSetPriority 0x3#32 0x1#32) ∧
    decoded (.op [0b00001000#32]) = some (.picDispatch) := by decide

/-- R84: the 8-bit id, then the operands in R96's order. -/
theorem test_decode_tmr :
    decoded (.op [0b00100000#32, 0x3#32]) = some (.tmrSetPrescaler 0x3#32) ∧
    decoded (.op [0b00100001#32]) = some (.tmrEnableAutoreload) ∧
    decoded (.op [0b00100010#32]) = some (.tmrDisableAutoreload) ∧
    decoded (.op [0b00100011#32]) = some (.tmrEnablePrescaler) ∧
    decoded (.op [0b00100100#32]) = some (.tmrDisablePrescaler) ∧
    decoded (.op [0b00100101#32]) = some (.tmrEnableInterrupts) ∧
    decoded (.op [0b00100110#32]) = some (.tmrDisableInterrupts) ∧
    decoded (.op [0b00100111#32]) = some (.tmrStart) ∧
    decoded (.op [0b00101000#32]) = some (.tmrStop) ∧
    decoded (.op [0b00101001#32, 0x3#32]) = some (.tmrSetCounter 0x3#32) ∧
    decoded (.op [0b00101010#32, 0x3#32]) = some (.tmrSetReload 0x3#32) ∧
    decoded (.op [0b00101011#32, 0x3#32]) = some (.tmrSetMatch 0x3#32) ∧
    decoded (.op [0b00101100#32, 0x3#32]) = some (.tmrEnableIndividualInterrupts 0x3#32) ∧
    decoded (.op [0b00101101#32]) = some (.tmrGetInterruptsPending) ∧
    decoded (.op [0b00101110#32, 0x3#32]) = some (.tmrAcknowledgeInterrupts 0x3#32) := by decide

/-- R84: the 8-bit id, then the operands in R96's order. -/
theorem test_decode_events :
    decoded (.op [0b01100000#32, 0x3#32, 0x1#32]) = some (.evLine 0x3#32 true) ∧
    decoded (.op [0b01100001#32]) = some (.evTick) := by decide

/-- R82: INT in bit 31, CODE below; the two exact matches first. -/
theorem test_decode_causes :
    decoded (.trap (0b10000000000000000000000000001111#32 :: 0x100#32 :: regs.toList)) = some (.trapExtIrq 0x100#32 regs) ∧
    decoded (.trap (0b00000000000000000000000000001011#32 :: 0x100#32 :: regs.toList)) = some (.trapEcallM 0x100#32 regs) ∧
    decoded (.trap (0b10000000000000000000000000001011#32 :: 0x100#32 :: regs.toList)) =
      some (.trapHaltIrq 11#31 0x100#32 regs) ∧
    decoded (.trap (0b00000000000000000000000000001111#32 :: 0x100#32 :: regs.toList)) =
      some (.trapHaltExc 15#31 0x100#32 regs) := by decide

/-- R82: causes of V-TRAP-2 and V-TRAP-9. -/
theorem test_decode_cause_extremes :
    decoded (.trap (0xFFFFFFFF#32 :: 0x100#32 :: regs.toList)) = some (.trapHaltIrq 0x7FFFFFFF#31 0x100#32 regs) ∧
    decoded (.trap (0x80000000#32 :: 0x100#32 :: regs.toList)) = some (.trapHaltIrq 0#31 0x100#32 regs) ∧
    decoded (.trap (0x00000000#32 :: 0x100#32 :: regs.toList)) = some (.trapHaltExc 0#31 0x100#32 regs) ∧
    decoded (.trap (0x7FFFFFFF#32 :: 0x100#32 :: regs.toList)) = some (.trapHaltExc 0x7FFFFFFF#31 0x100#32 regs) := by decide

/-- R95: a HOSTOP id with no row, and descriptors with no row (R67). -/
theorem test_decode_rejects :
    decode demoParams (.op [0x00#32]) = .error (.unknownOp 0x00#32) ∧
    decode demoParams (.op [0x2F#32]) = .error (.unknownOp 0x2F#32) ∧
    decode demoParams (.op [0x60#32, 3#32, 2#32]) = .error (.badLevel 2#32) ∧
    decode demoParams (.busreq [0x002#32]) = .error (.access .misaligned) ∧
    decode demoParams (.busreq [0x090#32]) = .error (.access .unmapped) ∧
    decode demoParams (.busreq [0x11C#32]) = .error (.access .unmapped) ∧
    decode demoParams (.busreq [0x400#32]) = .error (.strayBits 0x400#32) := ⟨rfl, rfl, rfl, rfl, rfl, rfl, rfl⟩

/-- V-MEM-1 to V-MEM-6: the access faults and their precedence. -/
theorem test_access_faults :
    decode demoParams (.bus ⟨0x10000000#32, false, 1, 0#32⟩) = .error (.access .badWidth) ∧
    decode demoParams (.bus ⟨0x10000002#32, false, 4, 0#32⟩) = .error (.access .misaligned) ∧
    decode demoParams (.bus ⟨0x10000090#32, false, 4, 0#32⟩) = .error (.access .unmapped) ∧
    decode demoParams (.bus ⟨0x1000101C#32, true, 4, 0#32⟩) = .error (.access .unmapped) ∧
    decode demoParams (.bus ⟨0x10000002#32, false, 2, 0#32⟩) = .error (.access .badWidth) ∧
    decode demoParams (.bus ⟨0x10000091#32, false, 1, 0#32⟩) = .error (.access .unmapped) :=
  ⟨rfl, rfl, rfl, rfl, rfl, rfl⟩

/-! ### PIC registers (V-PIC) -/

theorem test_vpic1_status_reset :
    (after (exec .rdPicStatus demo)).map (·.trace) = some [.read .status 0x00000000#32] := by decide

theorem test_vpic2_reads_reset :
    (after (exec .rdPicEnable demo)).map (·.trace) = some [.read .enable 0#32] ∧
    (after (exec .rdPicPending demo)).map (·.trace) = some [.read .pending 0#32] ∧
    (after (exec .rdPicAck demo)).map (·.trace) = some [.read .ack 0#32] ∧
    (after (exec .rdPicPrio0 demo)).map (·.trace) = some [.read (.prio 0) 0#32] ∧
    (after (exec .rdPicPrio31 demo)).map (·.trace) = some [.read (.prio 31) 0#32] := by decide

theorem test_vpic3_status_write :
    (after (exec (.wrPicStatus 0xFFFFFFFF#32) demo)).map (readReg .status) = some 0x80000000#32 := by decide

theorem test_vpic4_status_write :
    (after (exec (.wrPicStatus 0x7FFFFFFF#32) { demo with statusMie := true })).map (readReg .status) =
      some 0x00000000#32 := by decide

theorem test_vpic5_enable_write :
    (after (exec (.wrPicEnable 0xDEADBEEF#32) demo)).map (readReg .enable) = some 0xDEADBEEF#32 := by decide

theorem test_vpic6_pending_write_ignored :
    (after (exec (.wrPicPending 0xFFFFFFFF#32) demo)).map (readReg .pending) = some 0x00000000#32 := by decide

theorem test_vpic7_ack_clears_one :
    (after (exec (.wrPicAck 0x10#32) { demo with pending := 0x18#32 })).map (·.pending) = some 0x08#32 := by decide

theorem test_vpic9_ack_clears_all :
    (after (exec (.wrPicAck 0xFFFFFFFF#32) { demo with pending := 0x08#32 })).map (fun t => (t.pending, readReg .ack t)) =
      some (0x0#32, 0x0#32) := by decide

theorem test_vpic10_prio_write :
    (after (exec (.wrPicPrio5 7#32) demo)).map (readReg (.prio 5)) = some 7#32 := by decide

theorem test_vpic11_to_13_prio_saturates :
    ([32#32, 0xFFFFFFFF#32, 0x25#32] : List Word).map
      (fun v => (after (exec (.wrPicPrio5 v) demo)).map (readReg (.prio 5))) = [some 31#32, some 31#32, some 31#32] := by
  decide

theorem test_vpic14_no_repend :
    (after (exec (.wrPicAck 0x8#32) { demo with pending := 0x8#32, irqLines := 4#31, irqPrev := 0x8#32 })).map (·.pending) =
      some 0#32 := by decide

/-! ### Latch, arbiter, output (V-ARB) -/

theorem test_varb1_edge_pends :
    (after (exec (.evLine 3#32 true) demo)).map (fun t => (t.pending, t.candidates, t.selLine, t.irqOut)) =
      some (0x8#32, 0#32, 0, false) := by decide

theorem test_varb2_status :
    (after (exec (.wrPicEnable 0x8#32) { demo with pending := 0x8#32 })).map (fun t => (readReg .status t, t.irqOut)) =
      some (0x00000003#32, false) := by decide

theorem test_varb3_output :
    (after (exec (.wrPicStatus 0x80000000#32) { demo with pending := 0x8#32, enable := 0x8#32 })).map
      (fun t => (readReg .status t, t.irqOut)) = some (0x80000003#32, true) := by decide

/-- The state of V-ARB-7: lines 2 and 5 pending and enabled. -/
def twoCandidates (o : PrioOrder) (p2 : BitVec 5) : State :=
  { demo with
    params := { demoParams with prioOrder := o }
    statusMie := true, enable := 0x24#32, pending := 0x24#32, prio := (demo.prio.set 2 p2).set 5 9#5 }

theorem test_varb7_priority_order :
    readReg .status (twoCandidates .higherWins 4#5) = 0x80000005#32 ∧
    readReg .status (twoCandidates .lowerWins 4#5) = 0x80000002#32 := by decide

theorem test_varb8_tie :
    readReg .status (twoCandidates .higherWins 9#5) = 0x80000002#32 ∧
    readReg .status (twoCandidates .lowerWins 9#5) = 0x80000002#32 := by decide

theorem test_varb10_disable :
    (after (exec (.wrPicEnable 0#32) { demo with statusMie := true, enable := 0x8#32, pending := 0x8#32 })).map
      (fun t => (t.irqOut, t.pending, readReg .status t)) = some (false, 0x8#32, 0x80000000#32) := by decide

theorem test_varb11_line0_refused : refusal (exec (.evLine 0#32 true) demo) = some .lineNotEnvironment := by decide

/-! ### PIC driver operations (V-DRV), each transaction a step -/

theorem test_vdrv1_preinit :
    (after (exec (.picEnableInterrupt 0#32) demo)).map (fun t => (t.faults, t.trace)) = some ([.preInit], []) := by decide

theorem test_vdrv3_init_again :
    (after (exec .picInit { inited with slots := inited.slots.set 0 (.holds (.registered 1#32)) })).map
      (fun t => (t.slots[0], t.initialised, t.trace)) = some (.holds .defaultHandler, true, []) := by decide

theorem test_vdrv4_register :
    (after (exec (.picRegisterHandler 31#32 1#32) inited)).map (·.slots[31]) = some (.holds (.registered 1#32)) ∧
    after (exec (.picRegisterHandler 32#32 2#32) inited) = some inited := by decide

theorem test_vdrv5_enable_read :
    (after (exec (.picEnableInterrupt 4#32) { inited with enable := 0x1#32 })).map (fun t => (t.trace, t.hostOp)) =
      some ([.read .enable 0x1#32], some ⟨.picEnableInterrupt 4#32, 0x1#32⟩) := by decide

theorem test_vdrv5_enable_write :
    (after (exec (.picEnableInterrupt 4#32) { inited with enable := 0x1#32, hostOp := some ⟨.picEnableInterrupt 4#32, 0x1#32⟩ })).map
      (fun t => (t.trace, t.enable, t.hostOp)) = some ([.write .enable 0x11#32], 0x11#32, none) := by decide

theorem test_vdrv6_disable_write :
    (after (exec (.picDisableInterrupt 0#32)
      { inited with enable := 0x11#32, hostOp := some ⟨.picDisableInterrupt 0#32, 0x11#32⟩ })).map (·.trace) =
      some [.write .enable 0x10#32] := by decide

theorem test_vdrv7_out_of_range : after (exec (.picEnableInterrupt 0xFFFFFFFF#32) inited) = some inited := by decide

theorem test_vdrv8_set_priority :
    (after (exec (.picSetPriority 3#32 100#32) inited)).map (·.trace) = some [.write (.prio 3) 31#32] := by decide

theorem test_vdrv9_set_priority_out : after (exec (.picSetPriority 40#32 5#32) inited) = some inited := by decide

theorem test_vdrv10_master_enable :
    (after (exec .picMasterEnable { inited with hostOp := some ⟨.picMasterEnable, 0x80000000#32⟩ })).map
      (fun t => (t.trace, readReg .status t)) = some ([.write .status 0x80000000#32], 0x80000000#32) := by decide

theorem test_vdrv11_master_disable :
    (after (exec .picMasterDisable
      { inited with
        statusMie := true, pending := 0x4#32, enable := 0x4#32
        hostOp := some ⟨.picMasterDisable, 0x80000002#32⟩ })).map
      (fun t => (t.trace, readReg .status t, t.irqOut)) = some ([.write .status 0x2#32], 0x2#32, false) := by decide

theorem test_vdrv12_register_in_trap :
    (after (exec (.picRegisterHandler 1#32 1#32) inHandler)).map (·.faults) = some [.tableWriteInTrap] := by decide

theorem test_vdrv13_init_in_trap : (after (exec .picInit inHandler)).map (·.faults) = some [.tableWriteInTrap] := by decide

theorem test_vdrv14_mie_bit_8 :
    (after (exec .picMasterEnable
      { inited with params := { demoParams with mieBit := 8 }, hostOp := some ⟨.picMasterEnable, 0#32⟩ })).map
      (fun t => (t.trace, readReg .status t)) = some ([.write .status 0x100#32], 0x100#32) := by decide

/-! ### The acknowledge engine (V-ACK), one step each -/

/-- V-ACK-1: line 6 pending and enabled, after `pic.init`. -/
def lineSix : State :=
  { inited with statusMie := true, enable := 0x40#32, pending := 0x40#32, cause := 0x8000000F#32, epc := 0x500#32 }

theorem test_vack1_status_read :
    (after (step { lineSix with engine := .picRead .trap })).map (fun t => (t.engine, t.trace)) =
      some (.invoking .trap 6 .defaultHandler, [.invoke 6 .defaultHandler, .read .status 0x80000006#32]) := by decide

theorem test_vack1_ack :
    (after (step { lineSix with engine := .acking .trap 6 })).map (fun t => (t.engine, t.pending, t.resumePc, t.trace)) =
      some (.returning, 0#32, 0x500#32, [.write .ack 0x40#32]) := by decide

theorem test_vack2_captured_line :
    (after (step
      { inited with
        statusMie := true, enable := 0x204#32, pending := 0x204#32, prio := (demo.prio.set 2 1#5).set 9 5#5
        engine := .acking .trap 2 })).map (fun t => (t.trace, t.pending, t.irqOut, t.selLine)) =
      some ([.write .ack 0x4#32], 0x200#32, true, 9) := by decide

theorem test_vack4_dispatch_before_init : (after (exec .picDispatch demo)).map (·.faults) = some [.preInit] := by decide

theorem test_vack5_uninit_slot :
    (after (step { demo with engine := .picRead .trap })).map (fun t => (t.faults, t.trace)) =
      some ([.uninitSlot], [.read .status 0#32]) := by decide

theorem test_vack6_nested_dispatch : (after (exec .picDispatch inHandler)).map (·.faults) = some [.nestedDispatch] := by decide

theorem test_vack7_handler_waits : after (step inHandler) = some inHandler := by decide

theorem test_handler_completes :
    (after (step { inHandler with inputs := [.handlerDone] })).map (·.engine) = some (.acking .trap 3) := by decide

/-! ### The timer (V-TMR) -/

theorem test_vtmr1_stopped : after (exec .evTick demo) = some demo := by decide

theorem test_vtmr3_overflow_and_match :
    (after (exec .evTick { demo with tCtrl := 0x01#7, tCount := 0xFFFFFFFF#32 })).map
      (fun t => (t.tIpend, t.tCount, t.tCtrl)) = some (3#2, 0#32, 0#7) := by decide

theorem test_vtmr5_autoreload :
    (after (exec .evTick { demo with tCtrl := 0x09#7, tReload := 0xFFFFFF9C#32, tCount := 0xFFFFFFFF#32 })).map
      (fun t => (t.tIpend, t.tCount, t.tCtrl)) = some (1#2, 0xFFFFFF9C#32, 0x09#7) := by decide

theorem test_vtmr7_prescaler :
    (after (exec .evTick { demo with tCtrl := 0x25#7, pscCnt := 2 })).map (fun t => (t.tCount, t.pscCnt)) =
      some (0#32, 3) ∧
    (after (exec .evTick { demo with tCtrl := 0x25#7, pscCnt := 3 })).map (fun t => (t.tCount, t.pscCnt)) =
      some (1#32, 0) := by decide

theorem test_vtmr9_set_prescaler_restarts :
    (after (exec (.tmrSetPrescaler 1#32)
      { demo with tCtrl := 0x25#7, pscCnt := 3, hostOp := some ⟨.tmrSetPrescaler 1#32, 0x25#32⟩ })).map
      (fun t => (t.tCtrl, t.pscCnt)) = some (0x15#7, 0) := by decide

theorem test_vtmr10_match :
    (after (exec .evTick { demo with tCtrl := 0x01#7, tCount := 9#32, tMatch := 10#32 })).map
      (fun t => (t.tCount, t.tIpend)) = some (10#32, 2#2) := by decide

theorem test_vtmr11_no_match_on_write :
    (after (exec (.wrTmrCount 10#32) { demo with tMatch := 10#32 })).map (·.tIpend) = some 0#2 := by decide

theorem test_vtmr12_gated : ({ demo with tCtrl := 0x02#7, tIen := 1#2, tIpend := 2#2 } : State).irqIn = 0#32 := by decide

theorem test_vtmr13_enable_raises_line0 :
    (after (exec (.wrTmrIen 0x3#32) { demo with tCtrl := 0x02#7, tIen := 1#2, tIpend := 2#2 })).map
      (fun t => (t.irqIn, t.pending)) = some (1#32, 1#32) := by decide

theorem test_vtmr14_ctrl_width :
    (after (exec (.wrTmrCtrl 0xFFFFFFFF#32) demo)).map (readReg .tCtrl) = some 0x7F#32 := by decide

theorem test_vtmr15_ipend_write_ignored :
    (after (exec (.wrTmrIpend 0#32) { demo with tIpend := 3#2 })).map (readReg .tIpend) = some 3#32 := by decide

theorem test_vtmr16_iack :
    (after (exec (.wrTmrIack 1#32) { demo with tIpend := 3#2 })).map (fun t => (readReg .tIpend t, readReg .tIack t)) =
      some (2#32, 0#32) := by decide

theorem test_vtmr17_to_19_set_prescaler :
    ([(5#32, 0x01#32), (0xF#32, 0x7F#32), (8#32, 0x51#32)] : List (Word × Word)).map (fun q => withPrescaler q.1 q.2) =
      [0x51#32, 0x7F#32, 0x01#32] := by decide

theorem test_vtmr20_ien_overwrite :
    (after (exec (.tmrEnableIndividualInterrupts 2#32) { demo with tIen := 1#2 })).map (·.tIen) = some 2#2 := by decide

/-- The second step of a setter of T_CTRL that read `c`. -/
def setterWrites (op : Instr) (c : Word) : Option (BitVec 7) :=
  (after (exec op { demo with tCtrl := c.setWidth 7, hostOp := some ⟨op, c⟩ })).map (·.tCtrl)

theorem test_vtmr21_set_bits :
    setterWrites .tmrEnableAutoreload 0x00#32 = some 0x08#7 ∧ setterWrites .tmrEnablePrescaler 0x08#32 = some 0x0C#7 ∧
    setterWrites .tmrEnableInterrupts 0x0C#32 = some 0x0E#7 ∧ setterWrites .tmrStart 0x0E#32 = some 0x0F#7 := by decide

theorem test_vtmr22_clear_bits :
    setterWrites .tmrDisableAutoreload 0x0F#32 = some 0x07#7 ∧ setterWrites .tmrDisablePrescaler 0x07#32 = some 0x03#7 ∧
    setterWrites .tmrDisableInterrupts 0x03#32 = some 0x01#7 ∧ setterWrites .tmrStop 0x01#32 = some 0x00#7 := by decide

theorem test_vtmr23_verbatim :
    (after (exec (.tmrSetCounter 7#32) demo)).map (·.trace) = some [.write .tCount 7#32] ∧
    (after (exec (.tmrSetReload 0xFFFFFF9C#32) demo)).map (·.trace) = some [.write .tReload 0xFFFFFF9C#32] ∧
    (after (exec (.tmrSetMatch 0x80000000#32) demo)).map (·.trace) = some [.write .tMatch 0x80000000#32] := by decide

theorem test_vsrc2_pending_read_and_ack :
    (after (exec .tmrGetInterruptsPending { demo with tIpend := 1#2 })).map (·.trace) = some [.read .tIpend 1#32] ∧
    (after (exec (.tmrAcknowledgeInterrupts 1#32) { demo with tIpend := 1#2 })).map (·.tIpend) = some 0#2 := by decide

/-! ### Traps (V-TRAP) -/

theorem test_vsrc3_ext_irq :
    (after (exec (.trapExtIrq 0x100#32 regs) demo)).map (fun t => (t.engine, t.cause, t.epc, t.snap)) =
      some (.decode, 0x8000000F#32, 0x100#32, regs) := by decide

theorem test_decode_step :
    ([0x8000000F#32, 0xFFFFFFFF#32, 0x8000000B#32, 0x80000000#32, 0x0000000B#32, 0x0000000F#32, 0x00000000#32] :
      List Word).map decodeCause =
    [.picRead .trap, .halted (.unknownInterrupt 0x7FFFFFFF#32), .halted (.unknownInterrupt 11#32),
      .halted (.unknownInterrupt 0#32), .syscall, .halted (.unknownException 15#32), .halted (.unknownException 0#32)] := by
  decide

/-- P3: the oracle answers 42. -/
theorem test_p3_syscall :
    (after (step
      { demo with engine := .syscall, cause := 11#32, epc := 0x1000#32, snap := regs, inputs := [.syscallReturn 42#32] })).map
      (fun t => (t.engine, t.resumePc, t.snap)) = some (.returning, 0x1004#32, regs.set 10 42#32) := by decide

theorem test_vtrap6_resume_wraps :
    (after (step { demo with engine := .syscall, cause := 11#32, epc := 0xFFFFFFFC#32, inputs := [.syscallReturn 0#32] })).map
      (·.resumePc) = some 0#32 := by decide

theorem test_vtrap10_no_advance :
    (after (step { demo with engine := .acking .trap 0, cause := 0x8000000F#32, epc := 0x102#32 })).map (·.resumePc) =
      some 0x102#32 := by decide

theorem test_vtrap11_nested : (after (exec (.trapEcallM 0#32 regs) inHandler)).map (·.faults) = some [.nestedTrap] := by decide

theorem test_vtrap12_halted : refusal (exec (.trapEcallM 0#32 regs) haltedState) = some .halted := by decide

theorem test_vtrap_halt_classes :
    (after (exec (.trapHaltIrq 11#31 0x100#32 regs) demo)).map (·.cause) = some 0x8000000B#32 ∧
    (after (exec (.trapHaltExc 2#31 0x100#32 regs) demo)).map (·.cause) = some 0x00000002#32 := by decide

theorem test_return :
    (after (step { demo with engine := .returning, resumePc := 0x104#32, snap := regs })).map
      (fun t => (t.engine, t.trace)) = some (.idle, [.trapReturn 0x104#32 regs]) := by decide

/-- V-MEM-7. -/
theorem test_vmem7_quiescent :
    refusal (exec .rdPicStatus faulted) = some .quiescent ∧ refusal (step faulted) = some .quiescent := by decide

/-- V-MEM-1 as a step: the fault is recorded and nothing else happens. -/
theorem test_vmem1_step :
    (after (step { demo with inputs := [.request .host (.bus ⟨0x10000000#32, false, 1, 0#32⟩)] })) =
      some { demo with faults := [.badWidth] } := by decide

/-- P6: after the halt no program steps, the environment does. -/
theorem test_p6_halted :
    refusal (exec .picMasterEnable haltedState) = some .halted ∧
    (after (exec .evTick haltedState)).map (·.engine) = some haltedState.engine := by decide

/-! ### For every statement with hypotheses, states that meet them, each clause at the ends of its range -/

/-- The host between the two steps of `tmr.start`. -/
def midStart : State := { inited with hostOp := some ⟨.tmrStart, 0#32⟩ }

/-- The running handler between the two steps of `tmr.start`. -/
def midStartHandler : State := { inHandler with handlerOp := some ⟨.tmrStart, 0#32⟩ }

/-- The block with these stimuli to come. -/
def feed (s : State) (ins : List Stimulus) : State := { s with inputs := ins }

/-- The words of a write. -/
def write (code v : Word) : Stimulus := .request .host (.busreq [code, v])

theorem ready_demo : Ready demo := ⟨rfl, .host, rfl, rfl⟩
theorem ready_inited : Ready inited := ⟨rfl, .host, rfl, rfl⟩
theorem ready_handler : Ready inHandler := ⟨rfl, .handler, rfl, rfl⟩
theorem sampled_demo : Sampled demo ∧ Sampled inited ∧ Sampled inHandler := by decide
theorem live_demo : Live demo := ⟨rfl, nofun⟩

theorem inv_demo : Inv demo :=
  ⟨by decide, by decide, by decide, by decide, nofun, nofun, nofun, by decide, nofun, nofun, nofun⟩

/-- The invariant in a state inside a trap, where its last clauses say something. -/
theorem inv_handler : Inv inHandler :=
  ⟨by decide, by decide, by decide, by decide, nofun, nofun, nofun, by decide, fun _ => rfl, nofun, nofun⟩

theorem inv_returning : Inv { demo with engine := .returning, cause := 11#32, epc := 0x100#32, resumePc := 0x104#32 } :=
  ⟨by decide, by decide, by decide, by decide, nofun, nofun, nofun, by decide, nofun, nofun, fun _ => .inr ⟨rfl, rfl⟩⟩

/-! ### How a run ends (R257) -/

/-- Environment events, turns and a handler's operations left in the queue do not deny a good end. -/
theorem test_ends_well :
    EndsWell demo ∧
    EndsWell (feed demo [.request .host (.op [0x61#32]), .request .host (.op [0x60#32, 3#32, 1#32]), .turn,
      .request .host (.trap (0x0000000B#32 :: 0x100#32 :: regs.toList)), .request .handler (.busreq [0x000#32])]) := by decide

/-- An operation of the host left in the queue does, and so do one that is not complete, a trap in service and a fault. -/
theorem test_ends_not_well :
    ¬ EndsWell (feed demo [.turn, write 0x204#32 1#32]) ∧
    ¬ EndsWell (feed demo [.request .host (.bus ⟨0x10000090#32, false, 4, 0#32⟩)]) ∧
    ¬ EndsWell midStart ∧ ¬ EndsWell inHandler ∧ ¬ EndsWell faulted := by decide

theorem test_ends_badly : EndsBadly faulted ∧ EndsBadly haltedState ∧ ¬ EndsBadly demo :=
  ⟨.inl (by decide), .inr ⟨_, rfl⟩, EndsWell.not_endsBadly (by decide)⟩

/-- A handler that never completes hangs the run. -/
theorem test_hang : Hangs inHandler :=
  hangs_of_waiting rfl (by decide) (by rintro (h | ⟨r, h⟩) <;> [exact h rfl; cases h])

/-- The host's operation waits while a handler runs, and there is none of the handler's without a handler. -/
theorem test_turns :
    after (step (feed inHandler [write 0x204#32 1#32])) = some (feed inHandler [write 0x204#32 1#32]) ∧
    refusal (step (feed demo [.request .handler (.busreq [0x000#32])])) = some .noHandlerRunning ∧
    (after (step (feed inHandler [.request .handler (.busreq [0x204#32, 1#32])]))).map (·.enable) = some 1#32 := by decide

theorem witness_DecodeOfEncodeIsInstruction :
    Instr.WF (.evLine 1#32 false) ∧ Instr.WF (.evLine 31#32 true) ∧ Instr.WF .rdPicStatus ∧
    Instr.WF (.trapHaltIrq 14#31 0#32 regs) ∧ Instr.WF (.trapHaltExc 0x7FFFFFFF#31 0#32 regs) := by decide

theorem witness_DecodedWordsAreTheEncoding :
    decode demoParams (.busreq [0x20C#32, 5#32]) = .ok (.wrPicAck 5#32) ∧
    decode demoParams (.op [0x60#32, 3#32, 1#32]) = .ok (.evLine 3#32 true) ∧
    decode demoParams (.trap (0x0000000B#32 :: 4#32 :: regs.toList)) = .ok (.trapEcallM 4#32 regs) := ⟨rfl, rfl, rfl⟩

/-- Addresses at the ends of the two regions of `demoParams`, one per clause. -/
theorem witness_AccessFaultPrecedence :
    demoParams.legal = true ∧
    (∀ a ∈ ([0x0FFFFFFF, 0x10000090, 0x10000FFF, 0x1000101C] : List Nat),
      ¬ ((demoParams.picBase.toNat ≤ a ∧ a < demoParams.picBase.toNat + 0x90) ∨
        (demoParams.timerBase.toNat ≤ a ∧ a < demoParams.timerBase.toNat + 0x1C))) ∧
    (∀ a ∈ ([0x10000000, 0x1000008C, 0x1000008F, 0x10001000, 0x10001018, 0x1000101B] : List Nat),
      (demoParams.picBase.toNat ≤ a ∧ a < demoParams.picBase.toNat + 0x90) ∨
        (demoParams.timerBase.toNat ≤ a ∧ a < demoParams.timerBase.toNat + 0x1C)) := by decide

theorem witness_RegistersAnswerAtTheirAddresses : demoParams.legal = true := by decide

theorem witness_StepRunsDecodedInstruction :
    (feed demo [.request .host (.op [0x61#32]), .turn]).inputs = .request .host (.op [0x61#32]) :: [.turn] ∧
    decode demoParams (.op [0x61#32]) = .ok .evTick ∧ isEnvironment .evTick = true ∧
    decode demoParams (.busreq [0x000#32]) = .ok .rdPicStatus ∧ isEnvironment .rdPicStatus = false ∧
    demo.internalPending = false ∧ demo.issuer = some .host ∧ haltedState.internalPending = false ∧ haltedState.issuer = none ∧
    inHandler.internalPending = false ∧ inHandler.issuer = some .handler ∧ demo.faults = [] ∧ inHandler.faults = [] :=
  ⟨rfl, rfl, rfl, rfl, rfl, rfl, rfl, rfl, rfl, rfl, rfl, rfl, rfl⟩

theorem witness_PlacedTableWordRunsNext :
    decodeTableWord 8 0x61 = some .evTick ∧ isEnvironment .evTick = true ∧
    decodeTableWord 16 0x000 = some .rdPicStatus ∧ demo.internalPending = false := by decide

theorem witness_StepFinishesDriverOperation :
    midStart.faults = [] ∧ midStart.issuer = some .host ∧ midStart.inFlight .host = some ⟨.tmrStart, 0#32⟩ ∧
    midStart.inputs = [] ∧ midStartHandler.issuer = some .handler ∧
    midStartHandler.inFlight .handler = some ⟨.tmrStart, 0#32⟩ ∧ (feed midStart [.turn]).inputs = [.turn] ∧
    decode demoParams (.busreq [0x000#32]) = .ok .rdPicStatus ∧ isEnvironment .rdPicStatus = false :=
  ⟨rfl, rfl, rfl, rfl, rfl, rfl, rfl, rfl, rfl⟩

theorem witness_FaultyAccessIsRecorded :
    demo.faults = [] ∧ demo.issuer = some .host ∧ demo.internalPending = false ∧
    decode demoParams (.bus ⟨0x10000090#32, false, 4, 0#32⟩) = .error (.access .unmapped) ∧
    decode demoParams (.bus ⟨0x1000008F#32, false, 2, 0#32⟩) = .error (.access .badWidth) ∧
    decode demoParams (.bus ⟨0x1000008F#32, false, 4, 0#32⟩) = .error (.access .misaligned) :=
  ⟨rfl, rfl, rfl, rfl, rfl, rfl⟩

theorem witness_FaultedRunHasNoStep : faulted.faults ≠ [] := by decide

theorem witness_HaltedBlockOnlySeesEnvironment :
    haltedState.faults = [] ∧ haltedState.engine = .halted (.unknownInterrupt 0x7FFFFFFF#32) ∧
    (∀ n b, Instr.rdPicStatus ≠ .evLine n b) ∧ Instr.rdPicStatus ≠ .evTick ∧
    step haltedState = .next haltedState := ⟨rfl, rfl, nofun, nofun, rfl⟩

theorem witness_StepKeepsInvariant :
    (Inv demo ∧ ∃ t, step demo = .next t) ∧ (Inv inHandler ∧ ∃ t, step inHandler = .next t) :=
  ⟨⟨inv_demo, _, rfl⟩, ⟨inv_handler, _, rfl⟩⟩

theorem witness_BlockIsNeverStuck : Inv inHandler ∧ inHandler.faults = [] ∧ inHandler.inputs = [] :=
  ⟨inv_handler, rfl, rfl⟩

/-- The reads and writes of both blocks, by the host and by a handler. -/
theorem witness_PicControlReads : Ready demo ∧ Sampled demo ∧ Ready inHandler ∧ Sampled inHandler :=
  ⟨ready_demo, sampled_demo.1, ready_handler, sampled_demo.2.2⟩

theorem witness_PicPriorityReads : Ready demo ∧ Sampled demo := ⟨ready_demo, sampled_demo.1⟩
theorem witness_PicControlWrites : Ready demo ∧ Sampled demo := ⟨ready_demo, sampled_demo.1⟩
theorem witness_PicPriorityWrites : Ready demo ∧ Sampled demo := ⟨ready_demo, sampled_demo.1⟩
theorem witness_TimerReads : Ready demo ∧ Sampled demo := ⟨ready_demo, sampled_demo.1⟩
theorem witness_TimerValueWrites : Ready demo ∧ Sampled demo := ⟨ready_demo, sampled_demo.1⟩
theorem witness_TimerInterruptWrites : Ready demo ∧ Sampled demo := ⟨ready_demo, sampled_demo.1⟩
theorem witness_TimerControlWrite : Ready demo ∧ Sampled demo := ⟨ready_demo, sampled_demo.1⟩
theorem witness_ControlSettersKeepOtherBits : Ready demo ∧ Sampled demo := ⟨ready_demo, sampled_demo.1⟩

theorem witness_PriorityReadsBackClamped : (31 : Fin 32) ≠ 0 := by decide

/-- A step that changes each of the registers. -/
theorem witness_RegistersChangeOnlyByTheirWrite :
    (after (step (feed demo [write 0x200#32 0x80000000#32]))).map (·.statusMie) = some true ∧
    (after (step (feed demo [write 0x204#32 0x8#32]))).map (·.enable) = some 0x8#32 ∧
    (after (step (feed demo [write 0x28C#32 40#32]))).map (·.prio[31]) = some 31#5 ∧
    (after (step (feed demo [write 0x308#32 9#32]))).map (·.tReload) = some 9#32 ∧
    (after (step (feed demo [write 0x30C#32 9#32]))).map (·.tMatch) = some 9#32 ∧
    (after (step (feed demo [write 0x310#32 7#32]))).map (·.tIen) = some 3#2 := by decide

/-- A bit that rises (lines 1 and 31), and one that falls. -/
theorem witness_PendingSetByLatchClearedByAck :
    (after (step (feed demo [.request .host (.op [0x60#32, 1#32, 1#32])]))).map (·.pending.getLsbD 1) = some true ∧
    (after (step (feed demo [.request .host (.op [0x60#32, 31#32, 1#32])]))).map (·.pending.getLsbD 31) = some true ∧
    (after (step (feed { demo with pending := 1#32 } [write 0x20C#32 1#32]))).map (·.pending.getLsbD 0) = some false := by
  decide

theorem witness_SelectedLineIsBestCandidate :
    demo.candidates = 0#32 ∧ (twoCandidates .higherWins 4#5).candidates ≠ 0#32 ∧
    (twoCandidates .lowerWins 4#5).candidates.getLsbD 5 = true ∧
    (twoCandidates .higherWins 9#5).prio[2] = (twoCandidates .higherWins 9#5).prio[5] := by decide

theorem witness_StatusReportsSelectedLine : demoParams.legal = true ∧ 5 ≠ demoParams.mieBit.val := by decide

theorem witness_LineEventLatchesRisingEdge :
    demo.faults = [] ∧ Sampled demo ∧ 1 ≤ (1#32).toNat ∧ (31#32).toNat ≤ 31 ∧ (0#32).toNat = 0 ∧ 31 < (32#32).toNat := by
  decide

theorem witness_InitFillsTable :
    HostReady demo ∧ Sampled demo ∧ inHandler.faults = [] ∧ inHandler.context = .trap := by decide

theorem witness_RegisterHandlerWritesOneSlot :
    Live demo ∧ demo.initialised = false ∧ inHandler.faults = [] ∧ inHandler.initialised = true ∧
    inHandler.context = .trap ∧ HostReady inited ∧ Sampled inited ∧ inited.initialised = true ∧
    (31#32).toNat < 32 ∧ 32 ≤ (32#32).toNat :=
  ⟨live_demo, rfl, rfl, rfl, rfl, ⟨rfl, rfl, rfl⟩, by decide, rfl, by decide, by decide⟩

theorem witness_MasterEnableAndDisable :
    inited.faults = [] ∧ inited.issuer = some .host ∧ inited.initialised = true ∧ Sampled inited ∧
    inited.inFlight .host = none ∧
    State.inFlight { inited with hostOp := some ⟨.picMasterEnable, 0#32⟩ } .host = some ⟨.picMasterEnable, 0#32⟩ ∧
    State.inFlight { inHandler with handlerOp := some ⟨.picMasterDisable, 0#32⟩ } .handler =
      some ⟨.picMasterDisable, 0#32⟩ := by decide

theorem witness_EnableAndDisableInterrupt :
    inited.faults = [] ∧ inited.issuer = some .host ∧ inited.initialised = true ∧ Sampled inited ∧
    (31#32).toNat < 32 ∧ inited.inFlight .host = none ∧
    State.inFlight { inited with hostOp := some ⟨.picEnableInterrupt 31#32, 0#32⟩ } .host =
      some ⟨.picEnableInterrupt 31#32, 0#32⟩ ∧
    State.inFlight { inited with hostOp := some ⟨.picDisableInterrupt 0#32, 0#32⟩ } .host =
      some ⟨.picDisableInterrupt 0#32, 0#32⟩ := by decide

theorem witness_SetPriorityWritesClamped :
    Ready inited ∧ Sampled inited ∧ inited.initialised = true ∧ (31#32).toNat < 32 ∧ 32 ≤ (32#32).toNat :=
  ⟨ready_inited, sampled_demo.2.1, rfl, by decide, by decide⟩

theorem witness_PreInitFault :
    demo.initialised = false ∧ Live demo ∧ Ready demo ∧ encode .rdTmrIack = encodeRead .tIack ∧
    encode (.wrPicPrio31 5#32) = encodeWrite (.prio 31) 5#32 := ⟨rfl, live_demo, ready_demo, rfl, rfl⟩

theorem witness_OutOfRangeLinesAreIgnored :
    Sampled inited ∧ inited.initialised = true ∧ 32 ≤ (32#32).toNat ∧ HostReady inited ∧ Ready inited ∧ Ready inHandler :=
  ⟨sampled_demo.2.1, rfl, by decide, ⟨rfl, rfl, rfl⟩, ready_inited, ready_handler⟩

theorem witness_DriverOperationsAreIdempotent :
    Ready inited ∧ Sampled inited ∧ inited.initialised = true ∧ HostReady inited :=
  ⟨ready_inited, sampled_demo.2.1, rfl, rfl, rfl, rfl⟩

/-- Both ways the table changes. -/
theorem witness_HandlerTableIsWrittenByHostOnly :
    (after (step (feed demo [.request .host (.op [0x01#32])]))).map (·.slots[31]) = some (.holds .defaultHandler) ∧
    (after (step (feed inited [.request .host (.op [0x02#32, 31#32, 7#32])]))).map (·.slots[31]) =
      some (.holds (.registered 7#32)) ∧
    (after (step (feed inHandler [.request .handler (.op [0x01#32])]))).map (fun t => (t.slots[31], t.faults)) =
      some (.holds .defaultHandler, [.tableWriteInTrap]) ∧
    (after (step (feed inited [.request .host (.op [0x02#32, 32#32, 7#32])]))).map (·.slots) = some inited.slots := by decide

theorem witness_DispatchEntry :
    Live demo ∧ demo.initialised = false ∧ Live inHandler ∧ inHandler.initialised = true ∧ inHandler.engine ≠ .idle ∧
    Live inited ∧ inited.engine = .idle ∧ inited.hostOp = none ∧ Sampled inited ∧
    ({ lineSix with engine := .decode } : State).cause = 0x8000000F#32 :=
  ⟨live_demo, rfl, ⟨rfl, nofun⟩, rfl, nofun, ⟨rfl, nofun⟩, rfl, rfl, by decide, rfl⟩

theorem witness_DispatchReadsStatusOnce :
    demoParams.legal = true ∧ Sampled lineSix ∧ lineSix.faults = [] ∧ lineSix.inputs = [] ∧
    lineSix.slots[lineSix.selLine] = .holds .defaultHandler ∧ demo.slots[demo.selLine] = .uninit := by decide

theorem witness_HandlerRunsToCompletion :
    inHandler.faults = [] ∧ Sampled inHandler ∧ inHandler.engine = .invoking .trap 3 (.registered 0x77#32) ∧
    inHandler.handlerOp = none ∧ inHandler.inputs = [] ∧ (feed inHandler [.handlerDone]).inputs = .handlerDone :: [] := by
  decide

theorem witness_AcknowledgeClearsCapturedLine :
    lineSix.faults = [] ∧ lineSix.inputs = [] ∧
    Sampled { lineSix with engine := .acking .trap 0 } ∧ Sampled { lineSix with engine := .acking .host 31 } := by decide

theorem witness_CapturedLineIsAcknowledged :
    (∃ t, step inHandler = .next t) ∧ ∃ t, step { lineSix with engine := .acking .host 31 } = .next t :=
  ⟨⟨_, rfl⟩, _, rfl⟩

theorem witness_DefaultDispatchRunsOnce :
    lineSix.faults = [] ∧ lineSix.inputs = [] ∧ lineSix.cause = 0x8000000F#32 ∧ lineSix.params.legal = true ∧
    Sampled { lineSix with engine := .decode } ∧ lineSix.slots[lineSix.selLine] = .holds .defaultHandler := by decide

theorem witness_HostDispatchRunsOnce :
    HostReady lineSix ∧ lineSix.initialised = true ∧ lineSix.inputs = [] ∧ lineSix.params.legal = true ∧ Sampled lineSix ∧
    lineSix.slots[lineSix.selLine] = .holds .defaultHandler := by decide

/-- Each clause: stopped, between two counts of the prescaler, and an effective count on each side of the overflow. -/
theorem witness_TickCounts :
    demo.faults = [] ∧ Sampled demo ∧ demo.tCtrl.getLsbD 0 = false ∧
    (let s : State := { demo with tCtrl := 0x25#7, pscCnt := 2 }
     Sampled s ∧ s.tCtrl.getLsbD 0 = true ∧ s.tCtrl.getLsbD 2 = true ∧ s.pscCnt + 1 ≠ s.prescale) ∧
    (let s : State := { demo with tCtrl := 0x25#7, pscCnt := 3, tCount := 0xFFFFFFFE#32 }
     Sampled s ∧ s.pscCnt + 1 = s.prescale ∧ s.tCount ≠ 0xFFFFFFFF#32) ∧
    (let s : State := { demo with tCtrl := 0x09#7, tCount := 0xFFFFFFFF#32 }
     Sampled s ∧ s.tCtrl.getLsbD 2 = false ∧ s.tCtrl.getLsbD 3 = true) ∧
    (let s : State := { demo with tCtrl := 0x01#7, tCount := 0xFFFFFFFF#32 }
     Sampled s ∧ s.tCtrl.getLsbD 3 = false) := by decide

theorem witness_PrescalerDividesTicks :
    (let s : State := { demo with tCtrl := 0x05#7 }
     s.start = true ∧ s.pse = true ∧ s.pscCnt = 0 ∧ s.prescale = 1) ∧
    (let s : State := { demo with tCtrl := 0x75#7 }
     s.start = true ∧ s.pse = true ∧ s.pscCnt = 0 ∧ s.prescale = 128) := by decide

/-- Periods 1, 100 and 2^32. -/
theorem witness_AutoreloadPeriod :
    (let s : State := { demo with tCtrl := 0x09#7, tCount := 0xFFFFFFFF#32, tReload := 0xFFFFFFFF#32 }
     s.are = true ∧ s.tCount = BitVec.ofNat 32 (2 ^ 32 - 1) ∧ s.tReload = s.tCount) ∧
    (let s : State := { demo with tCtrl := 0x09#7, tCount := 0xFFFFFF9C#32, tReload := 0xFFFFFF9C#32 }
     s.are = true ∧ s.tCount = BitVec.ofNat 32 (2 ^ 32 - 100) ∧ s.tReload = s.tCount) ∧
    (let s : State := { demo with tCtrl := 0x09#7 }
     s.are = true ∧ s.tCount = BitVec.ofNat 32 (2 ^ 32 - 2 ^ 32) ∧ s.tReload = s.tCount) ∧
    ({ demo with tCtrl := 0x01#7 } : State).are = false :=
  ⟨⟨by decide, rfl, rfl⟩, ⟨by decide, rfl, rfl⟩, ⟨by decide, rfl, rfl⟩, by decide⟩

/-- The two steps of each setter, of the host and of a handler. -/
theorem witness_TimerBitSetters :
    inited.faults = [] ∧ inited.issuer = some .host ∧ Sampled inited ∧ inited.inFlight .host = none ∧
    Sampled midStart ∧ midStart.inFlight .host = some ⟨.tmrStart, 0#32⟩ ∧ midStartHandler.issuer = some .handler ∧
    midStartHandler.inFlight .handler = some ⟨.tmrStart, 0#32⟩ := by decide

theorem witness_SetPrescalerWritesField :
    Sampled demo ∧ demo.inFlight .host = none ∧
    State.inFlight { demo with hostOp := some ⟨.tmrSetPrescaler 8#32, 0x51#32⟩ } .host =
      some ⟨.tmrSetPrescaler 8#32, 0x51#32⟩ := by decide

/-- A step on which line 0 falls: the write of IACK. -/
theorem witness_TimerOutputGates :
    (let s : State := { demo with tCtrl := 0x02#7, tIen := 1#2, tIpend := 1#2, irqPrev := 1#32 }
     s.irqIn.getLsbD 0 = true ∧ (after (step (feed s [write 0x318#32 1#32]))).map (·.irqIn.getLsbD 0) = some false) := by
  decide

theorem witness_TrapPresentationSavesDescriptor :
    demo.faults = [] ∧ demo.engine = .idle ∧ Sampled demo ∧ inHandler.faults = [] ∧ inHandler.context = .trap ∧
    haltedState.engine = .halted (.unknownInterrupt 0x7FFFFFFF#32) := by decide

/-- Each clause: the two causes served, and a neighbour of each that halts. -/
theorem witness_DecoderClassifiesCause :
    (let s : State := { demo with engine := .decode, cause := 0x8000000F#32 }
     s.faults = [] ∧ s.inputs = [] ∧ s.engine = .decode ∧ Sampled s) ∧
    (let s : State := { demo with engine := .decode, cause := 0x8000000E#32 }
     Sampled s ∧ s.cause.getLsbD 31 = true ∧ s.cause ≠ 0x8000000F#32) ∧
    (let s : State := { demo with engine := .decode, cause := 11#32 }
     Sampled s ∧ s.cause = 11#32) ∧
    (let s : State := { demo with engine := .decode, cause := 12#32 }
     Sampled s ∧ s.cause.getLsbD 31 = false ∧ s.cause ≠ 11#32) := by decide

theorem witness_SyscallWritesReturnSlot :
    (let s : State := { demo with engine := .syscall, cause := 11#32 }
     s.faults = [] ∧ s.engine = .syscall ∧ Sampled s ∧ s.inputs = [] ∧
       (feed s [.syscallReturn 42#32]).inputs = .syscallReturn 42#32 :: []) := by decide

theorem witness_TrapReturnPutsOutResumePc :
    (let s : State := { demo with engine := .returning }
     s.faults = [] ∧ s.inputs = [] ∧ s.engine = .returning ∧ Sampled s) := by decide

theorem witness_SyscallTrapRoundTrip :
    demo.faults = [] ∧ demo.engine = .idle ∧ demo.inputs = [] ∧ Sampled demo := by decide

theorem witness_ResumePcAdvancesOnlyOnSyscall :
    (let s : State := { demo with engine := .returning, cause := 11#32, epc := 0x100#32, resumePc := 0x104#32 }
     Inv s ∧ ∃ t, step s = .next t ∧ t.trace = .trapReturn 0x104#32 s.snap :: s.trace) :=
  ⟨inv_returning, _, rfl, rfl⟩

/-- A step on which the descriptor changes, one on which the snapshot does, and one inside a trap. -/
theorem witness_TrapServiceFrame :
    (after (step (feed demo [.request .host (.trap (0x0000000B#32 :: 0x100#32 :: regs.toList))]))).map
      (fun t => (t.cause, t.epc, t.snap, t.engine)) = some (0x0000000B#32, 0x100#32, regs, .decode) ∧
    (after (step { demo with engine := .syscall, inputs := [.syscallReturn 42#32] })).map (·.snap[10]) = some 42#32 ∧
    (after (step midStartHandler)).map (fun t => (t.hostOp, t.handlerOp)) = some (none, none) := by decide

end Sys2Proof.Tests
end

/-! PROOFS. The statements of 00_scope.md: a step runs what its next stimulus decodes to, and a placed table word
decodes to the instruction the table names. -/

namespace Sys2Proof

/-! ### A decoder's answer is settled by the words it uses -/

/-- A decoder answers the same from the words it used alone, and then leaves none over. -/
def ReadsPrefix {α : Type} (d : List Word → Except Reject (α × List Word)) : Prop :=
  ∀ ⦃ws : List Word⦄ ⦃x : α⦄ ⦃rest : List Word⦄, d ws = .ok (x, rest) →
    ∃ used, ws = used ++ rest ∧ d used = .ok (x, [])

theorem readsPrefix_noOperand (i : Instr) : ReadsPrefix (noOperand i) := by
  rintro ws x rest ⟨⟩
  exact ⟨[], rfl, rfl⟩

theorem readsPrefix_oneOperand (f : Word → Instr) : ReadsPrefix (oneOperand f) := by
  rintro (_ | ⟨a, ws⟩) x rest ⟨⟩
  exact ⟨[a], rfl, rfl⟩

theorem readsPrefix_twoOperands (f : Word → Word → Instr) : ReadsPrefix (twoOperands f) := by
  rintro (_ | ⟨a, _ | ⟨b, ws⟩⟩) x rest ⟨⟩
  exact ⟨[a, b], rfl, rfl⟩

theorem readsPrefix_lineOperands : ReadsPrefix lineOperands := by
  rintro (_ | ⟨n, _ | ⟨b, ws⟩⟩) x rest h
  · cases h
  · cases h
  · refine ⟨[n, b], ?_⟩
    simp only [lineOperands] at h ⊢
    split_ifs at h ⊢
    · cases h; exact ⟨rfl, rfl⟩
    · cases h; exact ⟨rfl, rfl⟩

/-- The operand reader of every HOSTOP row. -/
theorem readsPrefix_of_mem_opRows : ∀ row ∈ opRows, ReadsPrefix row.2 := by
  simp [opRows, readsPrefix_noOperand, readsPrefix_oneOperand, readsPrefix_twoOperands, readsPrefix_lineOperands]

theorem readsPrefix_decodeOpWords : ReadsPrefix decodeOpWords := by
  rintro (_ | ⟨w, operands⟩) i rest h
  · cases h
  · simp only [decodeOpWords] at h
    split at h
    · next reader hl =>
      obtain ⟨before, after, hrows, -⟩ := List.lookup_eq_some_iff.mp hl
      obtain ⟨used, rfl, hu⟩ := readsPrefix_of_mem_opRows (w.toNat, reader) (by simp [hrows]) h
      exact ⟨w :: used, rfl, by simpa [decodeOpWords, hl] using hu⟩
    · cases h

theorem readsPrefix_decodeDescriptor (code : Nat) : ReadsPrefix (decodeDescriptor code) := by
  intro data i rest h
  unfold decodeDescriptor at h
  split at h
  · next hr => cases h; exact ⟨[], rfl, by simp [decodeDescriptor, hr]⟩
  · next hr =>
    split at h
    · cases h
    · next hw =>
      split at h
      · cases h
      · next v _ => cases h; exact ⟨[v], rfl, by simp [decodeDescriptor, hr, hw]⟩

theorem readsPrefix_decodeBusWords : ReadsPrefix decodeBusWords := by
  rintro (_ | ⟨w, data⟩) i rest h
  · cases h
  · simp only [decodeBusWords] at h
    split at h
    · cases h
    · next hw =>
      obtain ⟨used, rfl, hu⟩ := readsPrefix_decodeDescriptor _ h
      exact ⟨w :: used, rfl, by simp [decodeBusWords, hw, hu]⟩

theorem readsPrefix_readSnapshot : ReadsPrefix readSnapshot := by
  intro ws regs rest h
  unfold readSnapshot at h
  split at h
  · next hl => cases h; exact ⟨ws.take 32, (ws.take_append_drop 32).symm, by simp [readSnapshot, hl]⟩
  · cases h

theorem readsPrefix_decodeTrapWords : ReadsPrefix decodeTrapWords := by
  rintro (_ | ⟨cause, _ | ⟨epc, ws⟩⟩) i rest h
  · cases h
  · cases h
  · simp only [decodeTrapWords] at h
    cases hs : readSnapshot ws with
    | error e => simp [hs, Except.map] at h
    | ok snap =>
      obtain ⟨used, rfl, hu⟩ := readsPrefix_readSnapshot hs
      rw [hs] at h
      cases h
      exact ⟨cause :: epc :: used, rfl, by simp [decodeTrapWords, hu, Except.map]⟩

/-! ### The request of a table word (log 10) -/

/-- The request of a row's format that carries these words. -/
def rowRequest (nbits : Nat) (ws : List Word) : Request :=
  if nbits ≤ 8 then .op ws else if nbits ≤ 16 then .busreq ws else .trap ws

theorem readsPrefix_decodeRow (nbits : Nat) : ReadsPrefix (decodeRow nbits) := by
  intro ws i rest h
  simp only [decodeRow] at h ⊢
  split_ifs at h ⊢
  · exact readsPrefix_decodeOpWords h
  · exact readsPrefix_decodeBusWords h
  · exact readsPrefix_decodeTrapWords h

theorem decode_rowRequest (p : Params) (nbits : Nat) (ws : List Word) :
    decode p (rowRequest nbits ws) = wholeRequest (decodeRow nbits ws) := by
  unfold rowRequest decodeRow
  split
  · rfl
  · split <;> rfl

theorem tableRequest_eq_rowRequest {nbits w : Nat} {i : Instr} {used rest : List Word} (hw : tableWords w = used ++ rest)
    (h : decodeRow nbits (tableWords w) = .ok (i, rest)) : tableRequest nbits w = rowRequest nbits used := by
  have taken : (tableWords w).take ((tableWords w).length - rest.length) = used := by simp [hw]
  simp only [tableRequest, rowRequest, h, taken]

/-- The request that carries a table word decodes to what the table word decodes to. -/
theorem decode_tableRequest {nbits w : Nat} {i : Instr} (p : Params) (h : decodeTableWord nbits w = some i) :
    decode p (tableRequest nbits w) = .ok i := by
  unfold decodeTableWord at h
  split at h
  · cases h
  · split at h
    · next rest hd =>
      cases h
      obtain ⟨used, hw, hu⟩ := readsPrefix_decodeRow nbits hd
      rw [tableRequest_eq_rowRequest hw hd, decode_rowRequest, hu]
      rfl
    · cases h

namespace Machine

variable {s : State}

/-! ### Operations in a faulted run, and turns -/

/-- Every operation is guarded by the record of faults before anything else (R240). -/
theorem exec_faulted (i : Instr) (h : s.faults ≠ []) : exec i s = .refused .quiescent := by
  cases i <;> exact unfaulted_faulted h

/-- Where no program may issue, an operation is performed at once, for itself to refuse. -/
theorem inTurn_noIssuer (a : Agent) (k : Result) (hp : s.internalPending = false) (hn : s.issuer = none) :
    inTurn a s k = k := by
  unfold inTurn
  rw [hp, hn]
  rfl

/-- The host's operation waits while a handler runs. -/
theorem inTurn_hostWaits (k : Result) (hp : s.internalPending = false) (hh : s.issuer = some .handler) :
    inTurn .host s k = .next s := by
  unfold inTurn
  rw [hp, hh]
  rfl

/-- A handler has no operation while the host may issue. -/
theorem inTurn_noHandler (k : Result) (hp : s.internalPending = false) (hh : s.issuer = some .host) :
    inTurn .handler s k = .refused .noHandlerRunning := by
  unfold inTurn
  rw [hp, hh]
  rfl

theorem issue_environment (a : Agent) {i : Instr} (rest : List Stimulus) (he : isEnvironment i = true) :
    issue a i rest s = exec i { s with inputs := rest } :=
  if_pos he

theorem issue_program (a : Agent) {i : Instr} (rest : List Stimulus) (he : isEnvironment i = false) :
    issue a i rest s = inTurn a s (exec i { s with inputs := rest }) :=
  if_neg (by simp [he])

/-- An event of the environment, or a program's operation in its turn, is performed. -/
theorem issue_admitted {a : Agent} {i : Instr} (rest : List Stimulus)
    (h : isEnvironment i = true ∨ (s.internalPending = false ∧ (s.issuer = some a ∨ s.issuer = none))) :
    issue a i rest s = exec i { s with inputs := rest } := by
  cases he : isEnvironment i with
  | true => exact issue_environment a rest he
  | false =>
    rw [issue_program a rest he]
    obtain h | ⟨hp, ha | hn⟩ := h
    · simp [he] at h
    · exact inTurn_issuer _ hp ha
    · exact inTurn_noIssuer a _ hp hn

/-- A request admitted to its step is run as the operation it decodes to, in a faulted run as well: there both are
refused. -/
theorem step_of_admitted_request {a : Agent} {r : Request} {rest : List Stimulus} {i : Instr}
    (hin : s.inputs = .request a r :: rest) (hd : decode s.params r = .ok i)
    (h : isEnvironment i = true ∨ (s.internalPending = false ∧ (s.issuer = some a ∨ s.issuer = none))) :
    step s = exec i { s with inputs := rest } := by
  by_cases hf : s.faults = []
  · rw [step_of_request hf hin hd, issue_admitted rest h]
  · rw [step_faulted hf, exec_faulted (s := { s with inputs := rest }) i hf]

/-- A placed request is the operation of the program that may issue one. -/
theorem step_placeRequest {r : Request} {i : Instr} (hd : decode s.params r = .ok i)
    (h : isEnvironment i = true ∨ s.internalPending = false) : step (placeRequest r s) = exec i s := by
  have turn : s.issuer = some (s.issuer.getD .host) ∨ s.issuer = none := by cases s.issuer <;> simp
  exact step_of_admitted_request (s := placeRequest r s) rfl hd (h.imp_right fun hp => ⟨hp, turn⟩)

end Machine

open Machine

/-- Settles O7: the request of a table word decodes as the table word, and a placed request is in its turn. -/
theorem placedTableWordRunsNext : Obligations.PlacedTableWordRunsNext :=
  fun s _ _ _ hw h => step_placeRequest (decode_tableRequest s.params hw) h

/-- Settles O6: a request in its turn is performed by its step; before it, the host waits and the handler is refused. -/
theorem stepRunsDecodedInstruction : Obligations.StepRunsDecodedInstruction := by
  intro s a r rest i hin hd
  refine ⟨step_of_admitted_request hin hd, fun he hp hf => ⟨?_, ?_⟩⟩
  · rintro rfl hh
    rw [step_of_request hf hin hd, issue_program .host rest he, inTurn_hostWaits _ hp hh]
  · rintro rfl hh
    rw [step_of_request hf hin hd, issue_program .handler rest he, inTurn_noHandler _ hp hh]

end Sys2Proof

/-! PROOFS. The statements of 10_state.md: what a register reads back, and what a step can change of the registers, of the
pending bits and of the handler table. -/

namespace Sys2Proof

namespace Machine

variable {s t : State}

/-! ### Priority registers (R29, R87) -/

theorem priorityField_toNat (v : Word) : (priorityField v).toNat = min v.toNat 31 := by
  unfold priorityField
  split
  · next h => exact (min_eq_right h.le).symm
  · next h =>
    rw [BitVec.toNat_setWidth, min_eq_left (by omega)]
    exact Nat.mod_eq_of_lt (by omega)

/-- The driver's clamp is idempotent with the register's saturation. -/
theorem priorityField_clampPriority (v : Word) : priorityField (clampPriority v) = priorityField v := by
  apply BitVec.eq_of_toNat_eq
  rw [priorityField_toNat, priorityField_toNat]
  unfold clampPriority
  split
  · next h => exact (min_eq_right h.le).symm
  · rfl

theorem writeReg_prio_same (n : Fin 32) (v : Word) (s : State) : (writeReg (.prio n) v s).prio[n] = priorityField v :=
  Vector.getElem_set_self _

theorem writeReg_prio_ne {m n : Fin 32} (h : m ≠ n) (v : Word) (s : State) :
    (writeReg (.prio n) v s).prio[m] = s.prio[m] :=
  Vector.getElem_set_ne n.isLt m.isLt fun e => h (Fin.ext e.symm)

/-! ### The STATUS word (R25, R101) -/

theorem selLine_testBit_ge (s : State) {k : Nat} (hk : 5 ≤ k) : s.selLine.val.testBit k = false :=
  Nat.testBit_lt_two_pow (lt_of_lt_of_le s.selLine.isLt (Nat.pow_le_pow_right (n := 2) (by decide) hk))

/-- A bit of STATUS is MIE's or the selected line's. -/
theorem statusWord_getLsbD (s : State) {k : Nat} (hk : k < 32) :
    s.statusWord.getLsbD k = ((decide (k = s.params.mieBit.val) && s.statusMie) || s.selLine.val.testBit k) := by
  have mie : ((BitVec.ofBool s.statusMie).setWidth 32 <<< s.params.mieBit.val).getLsbD k =
      (decide (k = s.params.mieBit.val) && s.statusMie) := by
    rw [BitVec.getLsbD_shiftLeft, BitVec.getLsbD_setWidth, BitVec.getLsbD_ofBool]
    rcases lt_trichotomy k s.params.mieBit.val with h | h | h
    · simp [h, h.ne]
    · simp [← h, hk]
    · have : k - s.params.mieBit.val ≠ 0 := by omega
      simp [h.ne', this]
  unfold State.statusWord
  rw [BitVec.getLsbD_or, mie, BitVec.getLsbD_ofNat, decide_eq_true hk, Bool.true_and]

theorem statusWord_getLsbD_high (s : State) {k : Nat} (hk : 5 ≤ k) :
    s.statusWord.getLsbD k = (decide (k = s.params.mieBit.val) && s.statusMie) := by
  by_cases h32 : k < 32
  · rw [statusWord_getLsbD s h32, selLine_testBit_ge s hk, Bool.or_false]
  · have : k ≠ s.params.mieBit.val := by omega
    simp [this, BitVec.getLsbD_of_ge s.statusWord k (by omega)]

/-- The LINE field of STATUS, which no legal `STATUS_MIE_BIT` overlaps (R9, R85). -/
theorem statusWord_line (h : s.params.legal = true) : s.statusWord &&& 0x1F#32 = BitVec.ofNat 32 s.selLine.val := by
  have hm := legal_mieBit h
  apply BitVec.eq_of_getLsbD_eq
  intro k hk
  rw [BitVec.getLsbD_and, statusWord_getLsbD s hk, BitVec.getLsbD_ofNat, BitVec.getLsbD_ofNat,
    show (0x1F : Nat) = 2 ^ 5 - 1 from rfl, Nat.testBit_two_pow_sub_one]
  by_cases h5 : k < 5
  · have : k ≠ s.params.mieBit.val := by omega
    simp [hk, h5, this]
  · simp [h5, selLine_testBit_ge s (k := k) (by omega)]

theorem lineOfStatus_statusWord (h : s.params.legal = true) : lineOfStatus s.statusWord = s.selLine := by
  unfold lineOfStatus
  rw [statusWord_line h]
  apply Fin.ext
  have := s.selLine.isLt
  simp [Fin.ofNat]

/-! ### The registers a step changes by its transaction only -/

/-- The registers no event, count, trap or phase of a dispatch changes: a write transaction changes one of them, and the
latch, at the end of the step, the pending bits. -/
structure WrittenRegs where
  params : Params
  statusMie : Bool
  enable : Word
  pending : Word
  prio : Vector (BitVec 5) 32
  irqPrev : Word
  tReload : Word
  tMatch : Word
  tIen : BitVec 2

def State.writtenRegs (s : State) : WrittenRegs :=
  ⟨s.params, s.statusMie, s.enable, s.pending, s.prio, s.irqPrev, s.tReload, s.tMatch, s.tIen⟩

theorem timerTick_writtenRegs (s : State) : (timerTick s).writtenRegs = s.writtenRegs := by
  rw [timerTick_eq]; rfl

theorem withOp_writtenRegs (a : Agent) (o : Option InFlight) (s : State) :
    (s.withOp a o).writtenRegs = s.writtenRegs := by
  cases a <;> rfl

/-- What a write makes of these registers depends on them alone. -/
theorem writeReg_writtenRegs_congr (r : BusReg) (v : Word) {s u : State} (h : u.writtenRegs = s.writtenRegs) :
    (writeReg r v u).writtenRegs = (writeReg r v s).writtenRegs := by
  simp only [State.writtenRegs, WrittenRegs.mk.injEq] at h ⊢
  cases r <;> simp [writeReg, writeCtrl, h]

/-- Before the latch: no register written, or one, by the newest transaction of the record. -/
def Transacts (s u : State) : Prop :=
  u.writtenRegs = s.writtenRegs ∨
    ∃ r v, u.trace = .write r v :: s.trace ∧ u.writtenRegs = (writeReg r v s).writtenRegs

/-- A step's transaction, and the latch at its end; a step that records a fault, or only waits, is not sampled (R121). -/
def TransactsAndSamples (s t : State) : Prop :=
  ∃ u, Transacts s u ∧ (t = latch u ∨ (t = u ∧ (t.faults ≠ [] ∨ t.irqIn = s.irqIn)))

theorem transacts_memWrite (r : BusReg) (v : Word) (s : State) : Transacts s (memWrite r v s) :=
  .inr ⟨r, v, memWrite_trace s r v, rfl⟩

theorem recordFault_faults_ne_nil (k : Fault) (s : State) : (recordFault k s).faults ≠ [] := by
  rw [recordFault_faults]
  split
  · next h => exact List.ne_nil_of_mem h
  · exact List.cons_ne_nil _ _

/-- A sampled step that writes no register. -/
theorem samples_of_unwritten {u : State} (h : u.writtenRegs = s.writtenRegs) : TransactsAndSamples s (latch u) :=
  ⟨u, .inl h, .inl rfl⟩

/-- A recorded fault, after a read transaction or none. -/
theorem transactsAndSamples_fault (k : Fault) {u : State} (h : u.writtenRegs = s.writtenRegs) :
    TransactsAndSamples s (recordFault k u) :=
  ⟨recordFault k u, .inl h, .inr ⟨rfl, .inl (recordFault_faults_ne_nil k u)⟩⟩

theorem Move.transactsAndSamples (h : Move s t) : TransactsAndSamples s t := by
  cases h with
  | quiet | read | init | register | dispatch | line | trap => exact samples_of_unwritten rfl
  | tick => exact samples_of_unwritten (timerTick_writtenRegs s)
  | @opRead a => exact samples_of_unwritten (withOp_writtenRegs a _ s)
  | fault k => exact transactsAndSamples_fault k rfl
  | write r v => exact ⟨_, transacts_memWrite r v s, .inl rfl⟩
  | @opWrite a _ _ r v =>
    refine ⟨_, .inr ⟨r, v, ?_, ?_⟩, .inl rfl⟩
    · rw [memWrite_trace, withOp_trace]
    · exact writeReg_writtenRegs_congr r v (withOp_writtenRegs a none s)

theorem EngineMove.transactsAndSamples (h : EngineMove s t) : TransactsAndSamples s t := by
  cases h with
  | decode | handlerDone | syscall | trapDone => exact samples_of_unwritten rfl
  | @picRead o =>
    obtain ⟨-, e⟩ | ⟨line, c, -, -, e⟩ := enginePicRead_cases o s
    · rw [e]; exact transactsAndSamples_fault _ rfl
    · rw [e]; exact samples_of_unwritten rfl
  | @ack o line => exact ⟨_, by cases o <;> exact .inr ⟨.ack, lineMask line, rfl, rfl⟩, .inl rfl⟩

/-- The queue of stimuli plays no part in a transaction. -/
theorem TransactsAndSamples.of_inputs {ins : List Stimulus} (h : TransactsAndSamples { s with inputs := ins } t) :
    TransactsAndSamples s t := by
  obtain ⟨u, hu | ⟨r, v, ht, hu⟩, hs⟩ := h
  · exact ⟨u, .inl hu, hs⟩
  · exact ⟨u, .inr ⟨r, v, ht, hu.trans (writeReg_writtenRegs_congr r v rfl)⟩, hs⟩

theorem step_transactsAndSamples (h : step s = .next t) : TransactsAndSamples s t := by
  obtain ⟨-, ins, rfl | m | m⟩ := step_next h
  · exact ⟨{ s with inputs := ins }, .inl rfl, .inr ⟨rfl, .inr rfl⟩⟩
  · exact m.transactsAndSamples.of_inputs
  · exact m.transactsAndSamples.of_inputs

/-! ### What a write changes -/

theorem writeReg_statusMie_changed {r : BusReg} {v : Word} (h : (writeReg r v s).statusMie ≠ s.statusMie) :
    r = .status ∧ (writeReg r v s).statusMie = v.getLsbD s.params.mieBit.val := by
  cases r with
  | status => exact ⟨rfl, rfl⟩
  | _ => exact absurd rfl h

theorem writeReg_enable_changed {r : BusReg} {v : Word} (h : (writeReg r v s).enable ≠ s.enable) :
    r = .enable ∧ (writeReg r v s).enable = v := by
  cases r with
  | enable => exact ⟨rfl, rfl⟩
  | _ => exact absurd rfl h

theorem writeReg_pending_cases (r : BusReg) (v : Word) (s : State) :
    (writeReg r v s).pending = s.pending ∨ (r = .ack ∧ (writeReg r v s).pending = s.pending &&& ~~~v) := by
  cases r with
  | ack => exact .inr ⟨rfl, rfl⟩
  | _ => exact .inl rfl

theorem writeReg_prio_changed {r : BusReg} {v : Word} {n : Fin 32} (h : (writeReg r v s).prio[n] ≠ s.prio[n]) :
    r = .prio n ∧ (writeReg r v s).prio[n] = priorityField v := by
  cases r with
  | prio m =>
    by_cases e : n = m
    · subst e; exact ⟨rfl, writeReg_prio_same n v s⟩
    · exact absurd (writeReg_prio_ne e v s) h
  | _ => exact absurd rfl h

theorem writeReg_tReload_changed {r : BusReg} {v : Word} (h : (writeReg r v s).tReload ≠ s.tReload) :
    r = .tReload ∧ (writeReg r v s).tReload = v := by
  cases r with
  | tReload => exact ⟨rfl, rfl⟩
  | _ => exact absurd rfl h

theorem writeReg_tMatch_changed {r : BusReg} {v : Word} (h : (writeReg r v s).tMatch ≠ s.tMatch) :
    r = .tMatch ∧ (writeReg r v s).tMatch = v := by
  cases r with
  | tMatch => exact ⟨rfl, rfl⟩
  | _ => exact absurd rfl h

theorem writeReg_tIen_changed {r : BusReg} {v : Word} (h : (writeReg r v s).tIen ≠ s.tIen) :
    r = .tIen ∧ (writeReg r v s).tIen = v.setWidth 2 := by
  cases r with
  | tIen => exact ⟨rfl, rfl⟩
  | _ => exact absurd rfl h

/-- A field that the latch does not sample is, after a step, as it was or as the step's write transaction made it. -/
theorem step_field {α : Type} (f : WrittenRegs → α) (hf : ∀ u : State, f (latch u).writtenRegs = f u.writtenRegs)
    (h : step s = .next t) :
    f t.writtenRegs = f s.writtenRegs ∨
      ∃ r v, t.trace = .write r v :: s.trace ∧ f t.writtenRegs = f (writeReg r v s).writtenRegs := by
  obtain ⟨u, hu, hs⟩ := step_transactsAndSamples h
  have latched : t.trace = u.trace ∧ f t.writtenRegs = f u.writtenRegs := by
    obtain rfl | ⟨rfl, -⟩ := hs
    · exact ⟨rfl, hf u⟩
    · exact ⟨rfl, rfl⟩
  rw [latched.1, latched.2]
  exact hu.imp (congrArg f) fun ⟨r, v, htr, hu⟩ => ⟨r, v, htr, congrArg f hu⟩

/-- A field that only writes of the register `r₀` change: a step that changes it is such a write, and stores `g` of the
written word. -/
theorem step_field_changed {α : Type} (f : WrittenRegs → α)
    (hf : ∀ u : State, f (latch u).writtenRegs = f u.writtenRegs) {r₀ : BusReg} {g : Word → α}
    (hw : ∀ r v, f (writeReg r v s).writtenRegs ≠ f s.writtenRegs → r = r₀ ∧ f (writeReg r v s).writtenRegs = g v)
    (h : step s = .next t) (hne : f t.writtenRegs ≠ f s.writtenRegs) :
    ∃ v, t.trace = .write r₀ v :: s.trace ∧ f t.writtenRegs = g v := by
  obtain e | ⟨r, v, htr, e⟩ := step_field f hf h
  · exact absurd e hne
  · obtain ⟨rfl, hv⟩ := hw r v (e ▸ hne)
    exact ⟨v, htr, e.trans hv⟩

theorem step_params (h : step s = .next t) : t.params = s.params := by
  obtain e | ⟨r, v, -, e⟩ := step_field WrittenRegs.params (fun _ => rfl) h
  · exact e
  · exact e.trans (writeReg_params s r v)

/-! ### The pending bits (R27, R121) -/

/-- Bit `n` of PENDING after the latch: it was pending, or its line rose. -/
theorem latch_pending_getLsbD (u : State) {n : Nat} (hn : n < 32) :
    (latch u).pending.getLsbD n = (u.pending.getLsbD n || (u.irqIn.getLsbD n && !u.irqPrev.getLsbD n)) := by
  rw [latch_pending, BitVec.getLsbD_or, BitVec.getLsbD_and, BitVec.getLsbD_not, decide_eq_true hn, Bool.true_and]

/-- Before the latch a step sets no pending bit, and clears one by a write to ACK only. -/
theorem Transacts.pending {u : State} (h : Transacts s u) {n : Nat} (hn : n < 32) :
    u.pending.getLsbD n = s.pending.getLsbD n ∨
      (u.pending.getLsbD n = false ∧ ∃ v, u.trace = .write .ack v :: s.trace ∧ v.getLsbD n = true) := by
  obtain hu | ⟨r, v, htr, hu⟩ := h
  · exact .inl (congrArg (BitVec.getLsbD · n) (congrArg WrittenRegs.pending hu))
  · have hp : u.pending = (writeReg r v s).pending := congrArg WrittenRegs.pending hu
    obtain e | ⟨rfl, e⟩ := writeReg_pending_cases r v s
    · exact .inl (by rw [hp, e])
    · have bit : u.pending.getLsbD n = (s.pending.getLsbD n && !v.getLsbD n) := by
        rw [hp, e, BitVec.getLsbD_and, BitVec.getLsbD_not, decide_eq_true hn, Bool.true_and]
      cases hv : v.getLsbD n with
      | false => exact .inl (by simp [bit, hv])
      | true => exact .inr ⟨by simp [bit, hv], v, htr, hv⟩

theorem Transacts.irqPrev {u : State} (h : Transacts s u) : u.irqPrev = s.irqPrev := by
  obtain hu | ⟨r, v, -, hu⟩ := h
  · exact congrArg WrittenRegs.irqPrev hu
  · exact (congrArg WrittenRegs.irqPrev hu).trans (writeReg_irqPrev s r v)

/-- A pending bit rises by a rising edge only. -/
theorem step_pending_rises (h : step s = .next t) {n : Nat} (hn : n < 32) (h0 : s.pending.getLsbD n = false)
    (h1 : t.pending.getLsbD n = true) : t.irqIn.getLsbD n = true ∧ s.irqPrev.getLsbD n = false := by
  obtain ⟨u, hu, hs⟩ := step_transactsAndSamples h
  have clear : u.pending.getLsbD n = false := by
    obtain e | ⟨e, -⟩ := hu.pending hn
    · exact e.trans h0
    · exact e
  obtain rfl | ⟨rfl, -⟩ := hs
  · rw [latch_pending_getLsbD u hn, clear, hu.irqPrev] at h1
    simpa using h1
  · simp [clear] at h1

/-- A pending bit falls by an ACK write of that bit only. -/
theorem step_pending_falls (h : step s = .next t) {n : Nat} (hn : n < 32) (h1 : s.pending.getLsbD n = true)
    (h0 : t.pending.getLsbD n = false) : ∃ v, t.trace = .write .ack v :: s.trace ∧ v.getLsbD n = true := by
  obtain ⟨u, hu, hs⟩ := step_transactsAndSamples h
  have cleared : u.pending.getLsbD n = false ∧ t.trace = u.trace := by
    obtain rfl | ⟨rfl, -⟩ := hs
    · rw [latch_pending_getLsbD u hn, Bool.or_eq_false_iff] at h0
      exact ⟨h0.1, rfl⟩
    · exact ⟨h0, rfl⟩
  obtain e | ⟨-, hv⟩ := hu.pending hn
  · rw [cleared.1, h1] at e; cases e
  · rwa [cleared.2]

/-- The latch misses no rising edge, whatever the enables are; a step that waits has none to see. -/
theorem step_pending_of_rising (h : step s = .next t) (hs : Sampled s) (hf : t.faults = []) {n : Nat} (hn : n < 32)
    (hi : t.irqIn.getLsbD n = true) (hp : s.irqPrev.getLsbD n = false) : t.pending.getLsbD n = true := by
  obtain ⟨u, hu, rfl | ⟨rfl, hne | heq⟩⟩ := step_transactsAndSamples h
  · rw [latch_irqIn] at hi
    rw [latch_pending_getLsbD u hn, hu.irqPrev, hi, hp]
    simp
  · exact absurd hf hne
  · rw [heq, ← hs, hp] at hi; cases hi

/-! ### The handler table (R35) -/

/-- What a write of the handler table by the operation `i` makes of it. -/
def WritesTable (s : State) (i : Instr) (t : State) : Prop :=
  (i = .picInit ∧ t.initialised = true ∧ ∀ n : Fin 32, t.slots[n] = .holds .defaultHandler) ∨
    (s.initialised = true ∧ ∃ (line : Word) (n : Fin 32) (h : HandlerId), line.toNat = n.val ∧
      i = .picRegisterHandler line h ∧ t.slots = s.slots.set n (.holds (.registered h)))

theorem picInit_writesTable (h : exec .picInit s = .next t) (hne : t.slots ≠ s.slots) : WritesTable s .picInit t := by
  obtain ⟨-, ⟨-, h⟩ | ⟨-, rfl⟩⟩ := outsideTrap_next h
  · obtain ⟨-, rfl⟩ := oneStep_next h
    exact .inl ⟨rfl, rfl, fun n => Vector.getElem_replicate n.isLt⟩
  · exact absurd rfl hne

theorem picRegisterHandler_writesTable {line : Word} {id : HandlerId}
    (h : exec (.picRegisterHandler line id) s = .next t) (hne : t.slots ≠ s.slots) :
    WritesTable s (.picRegisterHandler line id) t := by
  obtain ⟨-, ⟨hi, h⟩ | ⟨-, rfl⟩⟩ := afterInit_next h
  · obtain ⟨-, ⟨-, h⟩ | ⟨-, rfl⟩⟩ := outsideTrap_next h
    · obtain ⟨-, rfl⟩ := oneStep_next h
      cases hl : lineOperand line with
      | none => simp [hl] at hne
      | some n => exact .inr ⟨hi, line, n, id, (lineOperand_some hl).2.symm, rfl, by simp⟩
    · exact absurd rfl hne
  · exact absurd rfl hne

/-- An operation that changes the table writes it as `pic.init` or `pic.register_handler` does. -/
theorem exec_writesTable {i : Instr} (h : exec i s = .next t) (hne : t.slots ≠ s.slots) : WritesTable s i t := by
  by_cases hi : i = .picInit
  · subst hi; exact picInit_writesTable h hne
  · by_cases hr : ∃ line id, i = .picRegisterHandler line id
    · obtain ⟨line, id, rfl⟩ := hr
      exact picRegisterHandler_writesTable h hne
    · exact absurd (exec_slots h hi fun line id e => hr ⟨line, id, e⟩) hne

/-- An operation changes the table only where the host may issue it, outside any trap. -/
theorem Move.hostReady_of_slots (h : Move s t) (hne : t.slots ≠ s.slots) : HostReady s := by
  cases h with
  | init hr => exact hr
  | register hr => exact hr
  | quiet | read | dispatch | fault | line | trap => exact absurd rfl hne
  | tick => exact absurd (timerTick_slots s) hne
  | write r v => exact absurd (memWrite_slots s r v) hne
  | opRead => exact absurd (withOp_slots s _ _) hne
  | opWrite r v => exact absurd ((memWrite_slots _ r v).trans (withOp_slots s _ _)) hne

theorem Move.initialised (h : Move s t) (hi : s.initialised = true) : t.initialised = true := by
  cases h with
  | init => rfl
  | quiet | read | register | dispatch | fault | line | trap => exact hi
  | tick => exact (timerTick_initialised s).trans hi
  | write r v => exact (memWrite_initialised s r v).trans hi
  | opRead => exact (withOp_initialised s _ _).trans hi
  | opWrite r v => exact ((memWrite_initialised _ r v).trans (withOp_initialised s _ _)).trans hi

/-- The trap engine reads the table and does not write it. -/
theorem EngineMove.table (h : EngineMove s t) : t.slots = s.slots ∧ t.initialised = s.initialised := by
  cases h with
  | decode | handlerDone | syscall | trapDone => exact ⟨rfl, rfl⟩
  | @picRead o =>
    obtain ⟨-, e⟩ | ⟨line, c, -, -, e⟩ := enginePicRead_cases o s
    · rw [e]; exact ⟨rfl, rfl⟩
    · rw [e]; exact ⟨rfl, rfl⟩
  | @ack o => cases o <;> exact ⟨rfl, rfl⟩

theorem step_initialised (h : step s = .next t) (hi : s.initialised = true) : t.initialised = true := by
  obtain ⟨-, ins, rfl | m | m⟩ := step_next h
  · exact hi
  · exact m.initialised hi
  · exact m.table.2.trans hi

theorem step_hostReady_of_slots (h : step s = .next t) (hne : t.slots ≠ s.slots) : HostReady s := by
  obtain ⟨-, ins, rfl | m | m⟩ := step_next h
  · exact absurd rfl hne
  · exact m.hostReady_of_slots hne
  · exact absurd m.table.1 hne

/-! ### A step where the host may issue: no stimulus but its request is performed -/

theorem HostReady.issuer (h : HostReady s) : s.issuer = some .host := by
  simp [State.issuer, h.2.1]

theorem HostReady.internalPending (h : HostReady s) : s.internalPending = false := by
  simp [State.internalPending, h.2.1, h.2.2]

theorem HostReady.internalStep (h : HostReady s) : internalStep s = .next s := by
  rw [internalStep_idle h.2.1, h.2.2]; rfl

theorem HostReady.completion (h : HostReady s) (rest : List Stimulus) :
    completion rest s = .refused .noHandlerRunning := by
  simp [Machine.completion, h.internalPending, h.2.1]

theorem HostReady.oracleAnswer (h : HostReady s) (v : Word) (rest : List Stimulus) :
    oracleAnswer v rest s = .refused .noSyscallWaiting := by
  simp [Machine.oracleAnswer, h.internalPending, h.2.1]

/-- Where the host may issue, a program's operation that is performed is the host's. -/
theorem HostReady.inTurn_next (h : HostReady s) {a : Agent} {k : Result} (ht : inTurn a s k = .next t) :
    a = .host ∧ k = .next t := by
  cases a with
  | host => exact ⟨rfl, by rwa [inTurn_issuer k h.internalPending h.issuer] at ht⟩
  | handler => rw [inTurn_noHandler k h.internalPending h.issuer] at ht; cases ht

theorem WritesTable.not_environment {i : Instr} (h : WritesTable s i t) : isEnvironment i = false := by
  obtain ⟨rfl, -⟩ | ⟨-, -, -, -, -, rfl, -⟩ := h <;> rfl

/-- An issued operation that changes the table is the host's. -/
theorem HostReady.issue_writesTable (h : HostReady s) {a : Agent} {i : Instr} {rest : List Stimulus}
    (ht : issue a i rest s = .next t) (hne : t.slots ≠ s.slots) : a = .host ∧ WritesTable s i t := by
  cases he : isEnvironment i with
  | true =>
    rw [issue_environment a rest he] at ht
    exact absurd he (by simp [(exec_writesTable ht hne).not_environment])
  | false =>
    rw [issue_program a rest he] at ht
    obtain ⟨ha, hx⟩ := h.inTurn_next ht
    exact ⟨ha, exec_writesTable (s := { s with inputs := rest }) hx hne⟩

/-- A request that decodes to no operation leaves the table alone. -/
theorem HostReady.reject_slots (h : HostReady s) {a : Agent} {e : Reject} {rest : List Stimulus}
    (ht : reject a e rest s = .next t) : t.slots = s.slots := by
  cases e with
  | access k =>
    obtain ⟨-, f, rfl⟩ := busFault_next (h.inTurn_next ht).2
    rfl
  | _ => cases ht

/-- A step that changes the table performs a request of the host's. -/
theorem step_writesTable (h : step s = .next t) (hne : t.slots ≠ s.slots) :
    ∃ r rest i, s.inputs = .request .host r :: rest ∧ decode s.params r = .ok i ∧ WritesTable s i t := by
  have hr : HostReady s := step_hostReady_of_slots h hne
  cases hin : s.inputs with
  | nil =>
    rw [step_of_nil hr.1 hin, hr.internalStep] at h
    cases h; exact absurd rfl hne
  | cons x rest =>
    cases x with
    | turn =>
      rw [step_of_turn hr.1 hin, HostReady.internalStep (s := { s with inputs := rest }) hr] at h
      cases h; exact absurd rfl hne
    | handlerDone => rw [step_of_handlerDone hr.1 hin, hr.completion] at h; cases h
    | syscallReturn v => rw [step_of_syscallReturn hr.1 hin, hr.oracleAnswer] at h; cases h
    | request a r =>
      cases hd : decode s.params r with
      | ok i =>
        rw [step_of_request hr.1 hin hd] at h
        obtain ⟨rfl, hw⟩ := hr.issue_writesTable h hne
        exact ⟨r, rest, i, rfl, hd, hw⟩
      | error e =>
        rw [step_of_reject hr.1 hin hd] at h
        exact absurd (hr.reject_slots h) hne

end Machine

open Machine

/-- Settles O21: a step's registers are what its one write transaction makes of them. -/
theorem registersChangeOnlyByTheirWrite : Obligations.RegistersChangeOnlyByTheirWrite := by
  intro s t h
  refine ⟨step_params h, ?_, ?_, fun n hne => ?_, ?_, ?_, ?_⟩
  · exact step_field_changed WrittenRegs.statusMie (fun _ => rfl) (fun _ _ => writeReg_statusMie_changed) h
  · exact step_field_changed WrittenRegs.enable (fun _ => rfl) (fun _ _ => writeReg_enable_changed) h
  · obtain ⟨v, htr, e : t.prio[n] = priorityField v⟩ :=
      step_field_changed (fun w => w.prio[n]) (fun _ => rfl) (fun _ _ => writeReg_prio_changed) h hne
    exact ⟨v, htr, by rw [e, priorityField_toNat]⟩
  · exact step_field_changed WrittenRegs.tReload (fun _ => rfl) (fun _ _ => writeReg_tReload_changed) h
  · exact step_field_changed WrittenRegs.tMatch (fun _ => rfl) (fun _ _ => writeReg_tMatch_changed) h
  · exact step_field_changed WrittenRegs.tIen (fun _ => rfl) (fun _ _ => writeReg_tIen_changed) h

/-- Settles O22: the step's transaction clears by ACK only, and the latch at its end sets by rising edges only. -/
theorem pendingSetByLatchClearedByAck : Obligations.PendingSetByLatchClearedByAck := by
  intro s t n h hn
  exact ⟨step_pending_rises h hn, step_pending_falls h hn, fun hs hf => step_pending_of_rising h hs hf hn⟩

/-- Settles O35: a changed slot needs the host ready to issue, and then only its request is performed. -/
theorem handlerTableIsWrittenByHostOnly : Obligations.HandlerTableIsWrittenByHostOnly := by
  intro s t h
  refine ⟨step_initialised h, fun hne => ?_⟩
  obtain ⟨-, he, ho⟩ := step_hostReady_of_slots h hne
  obtain ⟨r, rest, i, hin, hd, hw⟩ := step_writesTable h hne
  refine ⟨by simp [State.context, he], he, ho, r, rest, hin, ?_⟩
  obtain ⟨rfl, ht⟩ | ⟨hi, line, n, id, hl, rfl, ht⟩ := hw
  · exact .inl ⟨hd, ht⟩
  · exact .inr ⟨hi, line, n, id, hl, hd, ht⟩

/-- Settles O20: the register saturates what is written, and the driver's clamp to the same bound changes nothing. -/
theorem priorityReadsBackClamped : Obligations.PriorityReadsBackClamped := by
  intro s n v
  refine ⟨?_, rfl, Vector.getElem_replicate n.isLt, ?_, fun m hm => ?_⟩
  · simp only [readReg, writeReg_prio_same, BitVec.toNat_setWidth, priorityField_toNat]
    omega
  · simp only [writeReg, priorityField_clampPriority]
  · simp only [readReg, writeReg_prio_ne hm]

/-- Settles O25: STATUS is the selected line below bit 5, and MIE at its own bit. -/
theorem statusReportsSelectedLine : Obligations.StatusReportsSelectedLine := by
  intro s h
  have high : ∀ k, 5 ≤ k → (readReg .status s).getLsbD k = (decide (k = s.params.mieBit.val) && s.statusMie) :=
    fun _ hk => statusWord_getLsbD_high s hk
  refine ⟨lineOfStatus_statusWord h, ?_, fun k hk hne => ?_⟩
  · rw [high _ (legal_mieBit h), decide_eq_true rfl, Bool.true_and]
  · rw [high k hk, decide_eq_false hne, Bool.false_and]

end Sys2Proof

/-! PROOFS. The statements of 20_memory.md: which register a transaction at an absolute address names, or its fault; and
whose operation a step performs while a driver operation is between its two transactions. -/

namespace Sys2Proof

/-! ### The two regions and the registers in them (R60 to R62) -/

/-- Where a block's region begins (R60). -/
def blockBase (p : Params) : Bool → Word
  | false => p.picBase
  | true => p.timerBase

/-- How many bytes a block's region has (R60). -/
def blockSize : Bool → Nat
  | false => Config.picSize
  | true => Config.timerSize

theorem BusReg.offset_lt (r : BusReg) : r.offset < blockSize r.inTimer := by
  cases r with
  | prio n =>
    change 0x10 + 4 * n.val < 0x90
    omega
  | _ => decide

theorem BusReg.offset_aligned (r : BusReg) : r.offset % 4 = 0 := by
  cases r with
  | prio n => simp only [BusReg.offset]; omega
  | _ => rfl

theorem BusReg.address_eq (p : Params) (r : BusReg) :
    r.address p = blockBase p r.inTimer + BitVec.ofNat 32 r.offset := by
  unfold BusReg.address
  cases r.inTimer <;> rfl

/-- The PIC has a register at each word of its region (R61). -/
theorem exists_picReg : ∀ k < 36, ∃ r : BusReg, r.inTimer = false ∧ r.offset = 4 * k
  | 0, _ => ⟨.status, rfl, rfl⟩
  | 1, _ => ⟨.enable, rfl, rfl⟩
  | 2, _ => ⟨.pending, rfl, rfl⟩
  | 3, _ => ⟨.ack, rfl, rfl⟩
  | n + 4, h => ⟨.prio ⟨n, by omega⟩, rfl, by simp only [BusReg.offset]; omega⟩

/-- The timer has a register at each word of its region (R62). -/
theorem exists_timerReg : ∀ k < 7, ∃ r : BusReg, r.inTimer = true ∧ r.offset = 4 * k
  | 0, _ => ⟨.tCtrl, rfl, rfl⟩
  | 1, _ => ⟨.tCount, rfl, rfl⟩
  | 2, _ => ⟨.tReload, rfl, rfl⟩
  | 3, _ => ⟨.tMatch, rfl, rfl⟩
  | 4, _ => ⟨.tIen, rfl, rfl⟩
  | 5, _ => ⟨.tIpend, rfl, rfl⟩
  | 6, _ => ⟨.tIack, rfl, rfl⟩

/-- An aligned offset inside a block's region is that of one of its registers. -/
theorem exists_reg {timer : Bool} {off : Nat} (hlt : off < blockSize timer) (ha : off % 4 = 0) :
    ∃ r : BusReg, r.inTimer = timer ∧ r.offset = off := by
  obtain ⟨k, rfl⟩ := Nat.dvd_of_mod_eq_zero ha
  cases timer with
  | false =>
    have : 4 * k < 0x90 := hlt
    exact exists_picReg k (by omega)
  | true =>
    have : 4 * k < 0x1C := hlt
    exact exists_timerReg k (by omega)

section

variable {p : Params} (h : p.legal = true)
include h

theorem blockBase_aligned (timer : Bool) : (blockBase p timer).toNat % 4 = 0 := by
  obtain ⟨hpic, htimer, -⟩ := Machine.legal_bounds h
  cases timer with
  | false => exact hpic
  | true => exact htimer

/-- The address of a register does not wrap (R63). -/
theorem BusReg.address_toNat (r : BusReg) : (r.address p).toNat = (blockBase p r.inTimer).toNat + r.offset := by
  have hlt := r.offset_lt
  have fits : (blockBase p r.inTimer).toNat + blockSize r.inTimer ≤ 2 ^ 32 := by
    obtain ⟨-, -, hpic, htimer, -⟩ := Machine.legal_bounds h
    cases r.inTimer with
    | false => exact hpic
    | true => exact htimer
  rw [r.address_eq, BitVec.toNat_add, BitVec.toNat_ofNat]
  omega

/-- The regions are disjoint (R63): a block and an offset in it are found at their own address only. -/
theorem locate_eq_some {addr : Word} {timer : Bool} {off : Nat} :
    locate p addr = some (timer, off) ↔ off < blockSize timer ∧ addr.toNat = (blockBase p timer).toNat + off := by
  obtain ⟨-, -, -, -, hdisjoint⟩ := Machine.legal_bounds h
  have hpicSize : Config.picSize = 0x90 := rfl
  have htimerSize : Config.timerSize = 0x1C := rfl
  unfold locate
  dsimp only
  split_ifs with hpic htimer
  · cases timer <;> simp [blockBase, blockSize] <;> omega
  · cases timer <;> simp [blockBase, blockSize] <;> omega
  · cases timer <;> simp [blockBase, blockSize] <;> omega

theorem locate_address (r : BusReg) : locate p (r.address p) = some (r.inTimer, r.offset) :=
  (locate_eq_some h).mpr ⟨r.offset_lt, r.address_toNat h⟩

end

theorem locate_eq_none {p : Params} {addr : Word} :
    locate p addr = none ↔
      ¬((p.picBase.toNat ≤ addr.toNat ∧ addr.toNat < p.picBase.toNat + Config.picSize) ∨
        (p.timerBase.toNat ≤ addr.toNat ∧ addr.toNat < p.timerBase.toNat + Config.timerSize)) := by
  unfold locate
  dsimp only
  split_ifs with hpic htimer
  · exact iff_of_false nofun (not_not.mpr (.inl hpic))
  · exact iff_of_false nofun (not_not.mpr (.inr htimer))
  · exact iff_of_true rfl (not_or.mpr ⟨hpic, htimer⟩)

/-! ### A register's transaction and its descriptor (R83) -/

theorem decodeBusWords_busCode (write timer : Bool) {off : Nat} (h : off < 256) (data : List Word) :
    decodeBusWords (BitVec.ofNat 32 (busCode write timer off) :: data) =
      decodeDescriptor (busCode write timer off) data := by
  have hlt : busCode write timer off < 1024 := by
    have := write.toNat_le
    have := timer.toNat_le
    unfold busCode
    omega
  have hcode : (BitVec.ofNat 32 (busCode write timer off)).toNat = busCode write timer off :=
    Nat.mod_eq_of_lt (by omega)
  simp only [decodeBusWords, hcode, Nat.not_le.mpr hlt, if_false]

/-- Each register has a read row (R93, R94). -/
theorem busReadRows_lookup_isSome (r : BusReg) : (busReadRows.lookup (busCode false r.inTimer r.offset)).isSome := by
  cases r with
  | prio n => revert n; decide
  | _ => rfl

/-- No write descriptor is a read row. -/
theorem busReadRows_lookup_write (timer : Bool) (off : Nat) : busReadRows.lookup (busCode true timer off) = none := by
  have reads : ∀ row ∈ busReadRows, row.1 < 512 := by decide
  rw [List.lookup_eq_none_iff]
  intro row hrow
  have := reads row hrow
  simp only [busCode, Bool.toNat_true, bne_iff_ne]
  omega

/-- The request of a register's transaction, as the encoder has it. -/
def encodeTransaction (write : Bool) (r : BusReg) (v : Word) : Request :=
  if write then encodeWrite r v else encodeRead r

/-- A read leaves the data word of a transaction unused; a write uses it. -/
theorem decode_encodeTransaction (p : Params) (write : Bool) (r : BusReg) (v : Word) :
    decode p (encodeTransaction write r v) = (decodeDescriptor (busCode write r.inTimer r.offset) [v]).map (·.1) := by
  have hoff : r.offset < 256 := r.offset_lt.trans_le (by cases r.inTimer <;> decide)
  cases write with
  | false =>
    obtain ⟨i, hi⟩ := Option.isSome_iff_exists.mp (busReadRows_lookup_isSome r)
    have reads (data : List Word) : decodeDescriptor (busCode false r.inTimer r.offset) data = .ok (i, data) := by
      simp only [decodeDescriptor, hi]
    change wholeRequest (decodeBusWords [_]) = _
    rw [decodeBusWords_busCode false r.inTimer hoff, reads, reads]
    rfl
  | true =>
    change wholeRequest (decodeBusWords [_, v]) = _
    rw [decodeBusWords_busCode true r.inTimer hoff]
    simp only [decodeDescriptor, busReadRows_lookup_write]
    cases busWriteRows.lookup (busCode true r.inTimer r.offset) <;> rfl

/-- A word transaction at a register's address is that register's read or write. -/
theorem decode_bus_address {p : Params} (h : p.legal = true) (r : BusReg) (write : Bool) (v : Word) :
    decode p (.bus ⟨r.address p, write, 4, v⟩) = decode p (encodeTransaction write r v) := by
  have aligned : (r.address p).toNat % 4 = 0 := by
    have := blockBase_aligned h r.inTimer
    have := r.offset_aligned
    rw [r.address_toNat h]
    omega
  simp only [decode, decodeAccess, locate_address h, ne_eq, not_true_eq_false, if_false, aligned]
  exact (decode_encodeTransaction p write r v).symm

/-! ### The access checks, in the order of R67 -/

theorem decode_bus_outside (p : Params) {t : BusAccess} (hl : locate p t.addr = none) :
    decode p (.bus t) = .error (.access .unmapped) := by
  simp only [decode, decodeAccess, hl]

theorem decode_bus_badWidth (p : Params) {t : BusAccess} {timer : Bool} {off : Nat}
    (hl : locate p t.addr = some (timer, off)) (hs : t.size ≠ 4) : decode p (.bus t) = .error (.access .badWidth) := by
  simp only [decode, decodeAccess, hl, if_pos hs]

theorem decode_bus_misaligned (p : Params) {t : BusAccess} {timer : Bool} {off : Nat}
    (hl : locate p t.addr = some (timer, off)) (hs : t.size = 4) (ha : t.addr.toNat % 4 ≠ 0) :
    decode p (.bus t) = .error (.access .misaligned) := by
  simp only [decode, decodeAccess, hl, hs, ne_eq, not_true_eq_false, if_false, if_pos ha]

/-- An aligned address inside a region is a register's. -/
theorem exists_address {p : Params} (h : p.legal = true) {addr : Word} {timer : Bool} {off : Nat}
    (hl : locate p addr = some (timer, off)) (ha : addr.toNat % 4 = 0) : ∃ r : BusReg, addr = r.address p := by
  obtain ⟨hlt, haddr⟩ := (locate_eq_some h).mp hl
  have := blockBase_aligned h timer
  obtain ⟨r, rfl, rfl⟩ := exists_reg hlt (by omega)
  exact ⟨r, BitVec.eq_of_toNat_eq (haddr.trans (r.address_toNat h).symm)⟩

namespace Machine

variable {s : State}

/-! ### The driver operation in progress (R74), and a transaction that faults (R240) -/

/-- Only the host in `Idle` and a registered handler may issue. -/
theorem issuer_cases {a : Agent} (ha : s.issuer = some a) :
    (a = .host ∧ s.engine = .idle) ∨
      (a = .handler ∧ ∃ o line id, s.engine = .invoking o line (.registered id)) := by
  unfold State.issuer at ha
  split at ha
  · next he => cases ha; exact .inl ⟨rfl, he⟩
  · next o line id he => cases ha; exact .inr ⟨rfl, o, line, id, he⟩
  all_goals cases ha

/-- Where the agent that may issue has a driver operation in progress, that operation is the block's own next step. -/
theorem internalStep_inFlight {a : Agent} {g : InFlight} (ha : s.issuer = some a) (hg : s.inFlight a = some g) :
    s.internalPending = true ∧ internalStep s = exec g.op s := by
  obtain ⟨rfl, he⟩ | ⟨rfl, o, line, id, he⟩ := issuer_cases ha
  · have hop : s.hostOp = some g := hg
    exact ⟨by simp [State.internalPending, he, hop], by rw [internalStep_idle he, hop]; rfl⟩
  · have hop : s.handlerOp = some g := hg
    exact ⟨by simp [State.internalPending, he, hop], by rw [internalStep_registered he, hop]; rfl⟩

/-- The fault that an access fault is recorded as (R65 to R67). -/
def accessFault : AccessFault → Fault
  | .unmapped => .unmapped
  | .badWidth => .badWidth
  | .misaligned => .misaligned

theorem busFault_issuer {a : Agent} (k : AccessFault) (hf : s.faults = []) (ha : s.issuer = some a) :
    busFault k s = .next { s with faults := [accessFault k] } := by
  unfold busFault
  rw [byIssuer_some hf ha, recordFault_clear hf]
  cases k <;> rfl

/-- A program's faulting transaction in its turn. -/
theorem step_of_accessFault {a : Agent} {r : Request} {rest : List Stimulus} {k : AccessFault} (hf : s.faults = [])
    (ha : s.issuer = some a) (hp : s.internalPending = false) (hin : s.inputs = .request a r :: rest)
    (hd : decode s.params r = .error (.access k)) :
    step s = .next { s with inputs := rest, faults := [accessFault k] } := by
  rw [step_of_reject hf hin hd]
  exact (inTurn_issuer _ hp ha).trans (busFault_issuer (s := { s with inputs := rest }) k hf ha)

end Machine

open Machine

/-- Settles O4: the checks of R67 in their order, and behind them a register's own word. -/
theorem accessFaultPrecedence : Obligations.AccessFaultPrecedence := by
  intro p t h a inside
  cases hl : locate p t.addr with
  | none =>
    have out : ¬inside := locate_eq_none.mp hl
    exact ⟨fun _ => decode_bus_outside p hl, fun hin => absurd hin out, fun hin => absurd hin out,
      fun hin => absurd hin out⟩
  | some found =>
    have hin : inside := not_not.mp fun out => by simp [locate_eq_none.mpr out] at hl
    refine ⟨fun out => absurd hin out, fun _ => decode_bus_badWidth p hl, fun _ => decode_bus_misaligned p hl,
      fun _ hs ha => ?_⟩
    obtain ⟨r, haddr⟩ := exists_address h hl ha
    obtain ⟨addr, write, size, data⟩ := t
    obtain ⟨rfl, rfl⟩ : addr = r.address p ∧ size = 4 := ⟨haddr, hs⟩
    exact ⟨r, rfl, decode_bus_address h r write data⟩

/-- Settles O5: each row of the two maps gives the address of its register. -/
theorem registersAnswerAtTheirAddresses : Obligations.RegistersAnswerAtTheirAddresses := by
  intro p v h at_
  have answers (r : BusReg) : at_ r (r.address p) := ⟨decode_bus_address h r false v, decode_bus_address h r true v⟩
  have prioAddress (n : Fin 32) :
      (BusReg.prio n).address p = p.picBase + 0x10#32 + 4#32 * BitVec.ofNat 32 n.val := by
    rw [BitVec.add_assoc, ← BitVec.ofNat_mul, ← BitVec.ofNat_add]
    rfl
  exact ⟨answers .status, answers .enable, answers .pending, answers .ack, fun n => prioAddress n ▸ answers (.prio n),
    answers .tCtrl, answers .tCount, answers .tReload, answers .tMatch, answers .tIen, answers .tIpend, answers .tIack⟩

/-- Settles O8: the operation in progress is the block's own step, which comes before a program's next operation. -/
theorem stepFinishesDriverOperation : Obligations.StepFinishesDriverOperation := by
  intro s a g hf ha hg
  obtain ⟨pending, finishes⟩ := internalStep_inFlight ha hg
  refine ⟨fun hin => ?_, fun rest hin => ?_, fun b r rest i hin hd he => ?_⟩
  · rw [step_of_nil hf hin, finishes]
  · rw [step_of_turn hf hin]
    exact (internalStep_inFlight (s := { s with inputs := rest }) ha hg).2
  · rw [step_of_request hf hin hd, issue_program b rest he, inTurn_pending _ pending, finishes]

/-- Settles O9: a program's transaction in its turn that fails its access check records the fault of that check. -/
theorem faultyAccessIsRecorded : Obligations.FaultyAccessIsRecorded := by
  intro s a r rest hf ha hp hin
  exact ⟨step_of_accessFault hf ha hp hin, step_of_accessFault hf ha hp hin, step_of_accessFault hf ha hp hin⟩

end Sys2Proof

/-! PROOFS. The statements of 30_encoding.md: the decoder and the encoder undo each other, on every operation and on every
request of words, and the spec's own code words are those of the operations they stand for. -/

namespace Sys2Proof

/-! ### Cause words (R81, R82) -/

/-- A cause word is its bit 31 before the 31 bits of a source code. -/
theorem irqCause_eq_cons (code : BitVec 31) : irqCause code = BitVec.cons true code := rfl

theorem excCause_eq_cons (code : BitVec 31) : excCause code = BitVec.cons false code := rfl

theorem irqCause_setWidth {cause : Word} (h : cause.getLsbD 31 = true) : irqCause (cause.setWidth 31) = cause := by
  rw [irqCause_eq_cons, ← h]
  exact BitVec.cons_msb_setWidth cause

theorem excCause_setWidth {cause : Word} (h : cause.getLsbD 31 = false) : excCause (cause.setWidth 31) = cause := by
  rw [excCause_eq_cons, ← h]
  exact BitVec.cons_msb_setWidth cause

/-- Any interrupt but the external one is of the class `HaltIrq`. -/
theorem trapOf_irqCause {code : BitVec 31} (h : code ≠ 15#31) (epc : Word) (regs : Snapshot) :
    trapOf (irqCause code) epc regs = .trapHaltIrq code epc regs := by
  have irq : (irqCause code).getLsbD 31 = true := by rw [irqCause_eq_cons, BitVec.getLsbD_cons]; rfl
  have low : (irqCause code).setWidth 31 = code := by rw [irqCause_eq_cons, BitVec.setWidth_cons]
  have notExtIrq : irqCause code ≠ extIrqCause := fun he => h (low.symm.trans (congrArg (BitVec.setWidth 31) he))
  have notEcall : irqCause code ≠ ecallMCause := fun he => by rw [he] at irq; cases irq
  rw [trapOf, if_neg notExtIrq, if_neg notEcall, if_pos irq, low]

/-- Any exception but the environment call is of the class `HaltExc`. -/
theorem trapOf_excCause {code : BitVec 31} (h : code ≠ 11#31) (epc : Word) (regs : Snapshot) :
    trapOf (excCause code) epc regs = .trapHaltExc code epc regs := by
  have exc : (excCause code).getLsbD 31 = false := by rw [excCause_eq_cons, BitVec.getLsbD_cons]; rfl
  have low : (excCause code).setWidth 31 = code := by rw [excCause_eq_cons, BitVec.setWidth_cons]
  have notExtIrq : excCause code ≠ extIrqCause := fun he => by rw [he] at exc; cases exc
  have notEcall : excCause code ≠ ecallMCause := fun he => h (low.symm.trans (congrArg (BitVec.setWidth 31) he))
  rw [trapOf, if_neg notExtIrq, if_neg notEcall, exc, if_neg Bool.false_ne_true, low]

/-- The class of a cause word keeps the whole word. -/
theorem encode_trapOf (cause epc : Word) (regs : Snapshot) :
    encode (trapOf cause epc regs) = encodeTrap cause epc regs := by
  unfold trapOf
  split_ifs with extIrq ecall irq
  · rw [extIrq]; rfl
  · rw [ecall]; rfl
  · exact congrArg (encodeTrap · epc regs) (irqCause_setWidth irq)
  · exact congrArg (encodeTrap · epc regs) (excCause_setWidth (eq_false_of_ne_true irq))

/-! ### Trap requests (R17, R220) -/

theorem readSnapshot_toList (regs : Snapshot) : readSnapshot regs.toList = .ok (regs, []) := by
  have all : regs.toList.take 32 = regs.toList := by simp
  have words : regs.toList.toArray = regs.toArray := Array.toArray_toList
  simp [readSnapshot, all, words]

theorem eq_toList_append_of_readSnapshot {ws rest : List Word} {regs : Snapshot}
    (h : readSnapshot ws = .ok (regs, rest)) : ws = regs.toList ++ rest := by
  unfold readSnapshot at h
  split at h
  · cases h; exact (ws.take_append_drop 32).symm
  · cases h

theorem decode_encodeTrap (p : Params) (cause epc : Word) (regs : Snapshot) :
    decode p (encodeTrap cause epc regs) = .ok (trapOf cause epc regs) := by
  simp only [encodeTrap, decode, decodeTrapWords, readSnapshot_toList]
  rfl

theorem decode_encode_trapOf (p : Params) (cause epc : Word) (regs : Snapshot) :
    decode p (encode (trapOf cause epc regs)) = .ok (trapOf cause epc regs) := by
  rw [encode_trapOf, decode_encodeTrap]

theorem encode_of_decodeTrapWords {ws : List Word} {i : Instr} (h : decodeTrapWords ws = .ok (i, [])) :
    encode i = .trap ws := by
  rcases ws with _ | ⟨cause, _ | ⟨epc, ws⟩⟩
  · cases h
  · cases h
  · rw [decodeTrapWords] at h
    cases hs : readSnapshot ws with
    | error e => rw [hs] at h; cases h
    | ok snap =>
      obtain ⟨regs, rest⟩ := snap
      rw [hs] at h
      cases h
      rw [encode_trapOf, eq_toList_append_of_readSnapshot hs, List.append_nil]
      rfl

/-! ### The rows of the tables (R83, R84) -/

/-- What an operand reader answers when it uses all of its words is encoded as the row's code word and those words. -/
def ReadsEncoding (port : List Word → Request) (code : Nat) (reader : OperandReader) : Prop :=
  ∀ ⦃ws : List Word⦄ ⦃i : Instr⦄, reader ws = .ok (i, []) → encode i = port (BitVec.ofNat 32 code :: ws)

section

variable {port : List Word → Request} {code : Nat}

@[simp] theorem readsEncoding_noOperand {i : Instr} :
    ReadsEncoding port code (noOperand i) ↔ encode i = port [BitVec.ofNat 32 code] := by
  refine ⟨fun h => h rfl, ?_⟩
  rintro h ws _ ⟨⟩
  exact h

@[simp] theorem readsEncoding_oneOperand {f : Word → Instr} :
    ReadsEncoding port code (oneOperand f) ↔ ∀ a, encode (f a) = port [BitVec.ofNat 32 code, a] := by
  refine ⟨fun h a => h rfl, ?_⟩
  rintro h (_ | ⟨a, ws⟩) _ ⟨⟩
  exact h a

@[simp] theorem readsEncoding_twoOperands {f : Word → Word → Instr} :
    ReadsEncoding port code (twoOperands f) ↔ ∀ a b, encode (f a b) = port [BitVec.ofNat 32 code, a, b] := by
  refine ⟨fun h a b => h rfl, ?_⟩
  rintro h (_ | ⟨a, _ | ⟨b, ws⟩⟩) _ ⟨⟩
  exact h a b

end

theorem readsEncoding_lineOperands : ReadsEncoding .op 0x60 lineOperands := by
  rintro (_ | ⟨n, _ | ⟨b, ws⟩⟩) i h
  · cases h
  · cases h
  · simp only [lineOperands] at h
    split_ifs at h with low high
    · cases h; rw [low]; rfl
    · cases h; rw [high]; rfl

theorem readsEncoding_of_mem_busReadRows : ∀ row ∈ busReadRows, ReadsEncoding .busreq row.1 (noOperand row.2) := by
  have encoded : ∀ row ∈ busReadRows, encode row.2 = .busreq [BitVec.ofNat 32 row.1] := by decide
  exact fun row hrow => readsEncoding_noOperand.mpr (encoded row hrow)

theorem readsEncoding_of_mem_busWriteRows : ∀ row ∈ busWriteRows, ReadsEncoding .busreq row.1 (oneOperand row.2) := by
  have encoded : ∀ row ∈ busWriteRows, (fun v => encode (row.2 v)) = fun v => .busreq [BitVec.ofNat 32 row.1, v] :=
    List.map_inj_left.mp rfl
  exact fun row hrow => readsEncoding_oneOperand.mpr (congrFun (encoded row hrow))

theorem readsEncoding_of_mem_opRows : ∀ row ∈ opRows, ReadsEncoding .op row.1 row.2 := by
  simp [opRows, readsEncoding_lineOperands, encode]

theorem mem_of_lookup_eq_some {β : Type} {rows : List (Nat × β)} {code : Nat} {b : β}
    (h : rows.lookup code = some b) : (code, b) ∈ rows := by
  obtain ⟨before, after, rfl, -⟩ := List.lookup_eq_some_iff.mp h
  exact List.mem_append_cons_self

theorem readsEncoding_decodeDescriptor (code : Nat) : ReadsEncoding .busreq code (decodeDescriptor code) := by
  intro data i h
  unfold decodeDescriptor at h
  split at h
  · next hr => exact readsEncoding_of_mem_busReadRows _ (mem_of_lookup_eq_some hr) h
  · split at h
    · cases h
    · next f hw =>
      refine readsEncoding_of_mem_busWriteRows _ (mem_of_lookup_eq_some hw) ?_
      cases data with
      | nil => cases h
      | cons v rest => exact h

theorem encode_of_decodeBusWords {ws : List Word} {i : Instr} (h : decodeBusWords ws = .ok (i, [])) :
    encode i = .busreq ws := by
  cases ws with
  | nil => cases h
  | cons w data =>
    simp only [decodeBusWords] at h
    split at h
    · cases h
    · rw [readsEncoding_decodeDescriptor w.toNat h, BitVec.ofNat_toNat, BitVec.setWidth_eq]

theorem encode_of_decodeOpWords {ws : List Word} {i : Instr} (h : decodeOpWords ws = .ok (i, [])) :
    encode i = .op ws := by
  cases ws with
  | nil => cases h
  | cons w operands =>
    simp only [decodeOpWords] at h
    split at h
    · next reader hl =>
      rw [readsEncoding_of_mem_opRows _ (mem_of_lookup_eq_some hl) h, BitVec.ofNat_toNat, BitVec.setWidth_eq]
    · cases h

/-! ### Requests of words -/

/-- A request of words decodes only if its operation uses all of them. -/
theorem eq_ok_of_wholeRequest {x : Except Reject (Instr × List Word)} {i : Instr} (h : wholeRequest x = .ok i) :
    x = .ok (i, []) := by
  rcases x with _ | ⟨_, _ | _⟩ <;> cases h
  rfl

/-- Settles O1: a trap's class keeps its cause word; the code word of every other row is a literal, on which the tables'
lookups evaluate whatever the operands are. -/
theorem decodeOfEncodeIsInstruction : Obligations.DecodeOfEncodeIsInstruction := by
  intro p i hwf
  cases i with
  | trapExtIrq epc regs => exact decode_encode_trapOf p extIrqCause epc regs
  | trapEcallM epc regs => exact decode_encode_trapOf p ecallMCause epc regs
  | trapHaltIrq code epc regs =>
    have notExtIrq : code ≠ 15#31 := bne_iff_ne.mp hwf
    exact trapOf_irqCause notExtIrq epc regs ▸ decode_encode_trapOf p (irqCause code) epc regs
  | trapHaltExc code epc regs =>
    have notEcall : code ≠ 11#31 := bne_iff_ne.mp hwf
    exact trapOf_excCause notEcall epc regs ▸ decode_encode_trapOf p (excCause code) epc regs
  | evLine n level => cases level <;> rfl
  | _ => rfl

/-- Settles O2: each port's decoder answers operations that are encoded as the words it read. -/
theorem decodedWordsAreTheEncoding : Obligations.DecodedWordsAreTheEncoding := by
  intro p ws i
  exact ⟨fun h => encode_of_decodeBusWords (eq_ok_of_wholeRequest h),
    fun h => encode_of_decodeOpWords (eq_ok_of_wholeRequest h),
    fun h => encode_of_decodeTrapWords (eq_ok_of_wholeRequest h)⟩

/-- Settles O3: each list of words is the encoding of its operation. O1 gives `ev.line` for lines 1 to 31 only, and the
decoder itself gives it for any. -/
theorem specWordsDecode : Obligations.SpecWordsDecode := by
  intro p v w regs
  have decoded (i : Instr) (h : i.WF) : decode p (encode i) = .ok i := decodeOfEncodeIsInstruction p i h
  exact ⟨decoded .rdPicPrio7 rfl, decoded (.wrPicAck v) rfl, decoded (.wrTmrIack v) rfl,
    decoded (.picEnableInterrupt v) rfl, decoded (.picSetPriority v w) rfl, decoded .tmrStart rfl, rfl,
    decoded (.trapExtIrq v regs) rfl, decoded (.trapEcallM v regs) rfl, decoded (.trapHaltIrq 11#31 v regs) rfl,
    decoded (.trapHaltExc 2#31 v regs) rfl⟩

end Sys2Proof

/-! PROOFS. The statements of 40_pic_registers.md: what a read of a PIC register returns and what a write of one stores,
each with the whole of what it leaves unchanged. -/

namespace Sys2Proof

namespace Machine

variable {s : State}

/-- No write to a register of the PIC moves the timer's output, which is line 0 (R185). -/
theorem writeReg_irqIn_of_pic {r : BusReg} (hr : r.inTimer = false) (v : Word) (s : State) :
    (writeReg r v s).irqIn = s.irqIn := by
  cases r with
  | status | enable | pending | ack | prio => rfl
  | tCtrl | tCount | tReload | tMatch | tIen | tIpend | tIack => cases hr

/-- A write transaction of an admitted program to the PIC: the latch at its end sees no edge. -/
theorem busWrite_pic {r : BusReg} (hr : r.inTimer = false) (v : Word) (h : Ready s) (hs : Sampled s) :
    busWrite r v s = .next (memWrite r v s) :=
  busWrite_ready h hs (writeReg_irqIn_of_pic hr v s)

end Machine

open Machine

/-- Settles O16: each operation is the read transaction of its register, which the latch adds nothing to. -/
theorem picControlReads : Obligations.PicControlReads := by
  intro s h hs
  have reads (r : BusReg) : busRead r s = .next (memRead r s) := busRead_ready h hs
  exact ⟨reads .status, reads .enable, reads .pending, reads .ack⟩

/-- Settles O17: the 32 operations are the read transactions of the 32 priority registers. -/
theorem picPriorityReads : Obligations.PicPriorityReads := by
  intro s h hs
  have reads (n : Fin 32) :
      busRead (.prio n) s = .next { s with trace := .read (.prio n) (s.prio[n].setWidth 32) :: s.trace } :=
    busRead_ready h hs
  exact ⟨reads 0, reads 1, reads 2, reads 3, reads 4, reads 5, reads 6, reads 7,
    reads 8, reads 9, reads 10, reads 11, reads 12, reads 13, reads 14, reads 15,
    reads 16, reads 17, reads 18, reads 19, reads 20, reads 21, reads 22, reads 23,
    reads 24, reads 25, reads 26, reads 27, reads 28, reads 29, reads 30, reads 31⟩

/-- Settles O18: each operation is the write transaction of its register, which raises no edge for the latch. -/
theorem picControlWrites : Obligations.PicControlWrites := by
  intro s v h hs
  have writes (r : BusReg) (hr : r.inTimer = false) : busWrite r v s = .next (memWrite r v s) := busWrite_pic hr v h hs
  exact ⟨writes .status rfl, writes .enable rfl, writes .pending rfl, writes .ack rfl⟩

/-- Settles O19: the 32 operations are the write transactions of the 32 priority registers, which saturate. -/
theorem picPriorityWrites : Obligations.PicPriorityWrites := by
  intro s v h hs p
  have writes (n : Fin 32) :
      busWrite (.prio n) v s =
        .next { s with prio := s.prio.set n.val p, trace := .write (.prio n) v :: s.trace } :=
    busWrite_pic rfl v h hs
  exact ⟨writes 0, writes 1, writes 2, writes 3, writes 4, writes 5, writes 6, writes 7,
    writes 8, writes 9, writes 10, writes 11, writes 12, writes 13, writes 14, writes 15,
    writes 16, writes 17, writes 18, writes 19, writes 20, writes 21, writes 22, writes 23,
    writes 24, writes 25, writes 26, writes 27, writes 28, writes 29, writes 30, writes 31⟩

end Sys2Proof

/-! PROOFS. The statements of 41_pic_arbiter.md: the invariant of the block, which every step keeps, beginning with the
latch's sampling; which line the arbiter selects; the request to the CPU; and the environment's driving of a line. -/

namespace Sys2Proof

namespace Machine

variable {s t : State}

/-! ### The prescaler (R46, R180, R184, R188) -/

/-- An overflow that stops the counter clears START and leaves the prescaler's ratio (R182). -/
theorem timerOverflow_prescale (s : State) : (timerOverflow s).prescale = s.prescale := by
  have keepsPsc : (s.tCtrl &&& 0b1111110#7).extractLsb' 4 3 = s.tCtrl.extractLsb' 4 3 := by
    apply BitVec.eq_of_getLsbD_eq
    intro k hk
    obtain rfl | rfl | rfl : k = 0 ∨ k = 1 ∨ k = 2 := by omega
    all_goals simp
  unfold timerOverflow
  split
  · rfl
  · simp only [State.prescale, State.psc, keepsPsc]

theorem timerMatch_prescale (s : State) : (timerMatch s).prescale = s.prescale := by
  rw [timerMatch_eq]; rfl

theorem countStep_prescale (s : State) : (countStep s).prescale = s.prescale := by
  unfold countStep
  rw [timerMatch_prescale]
  split
  · exact timerOverflow_prescale s
  · rfl

theorem countStep_pscCnt (s : State) : (countStep s).pscCnt = s.pscCnt := by
  rw [countStep_eq]

/-- A tick counts `psc_cnt` up to its bound and no further (R180). -/
theorem timerTick_pscCnt_lt (h : s.pscCnt < s.prescale) : (timerTick s).pscCnt < (timerTick s).prescale := by
  unfold timerTick
  split
  · split
    · split
      · rw [countStep_pscCnt, countStep_prescale]
        exact Nat.zero_lt_of_lt h
      · next hne => exact Nat.lt_of_le_of_ne h hne
    · rwa [countStep_pscCnt, countStep_prescale]
  · exact h

theorem prescale_pos (h : s.params.legal = true) : 0 < s.prescale :=
  legal_prescale h s.psc.toNat s.psc.isLt

/-- A control write restarts `psc_cnt` wherever it changes the ratio (R188). -/
theorem writeCtrl_pscCnt_lt (v : Word) (hl : s.params.legal = true) (h : s.pscCnt < s.prescale) :
    (writeCtrl v s).pscCnt < (writeCtrl v s).prescale := by
  have bound : (writeCtrl v s).pscCnt = 0 ∨
      ((writeCtrl v s).pscCnt = s.pscCnt ∧ (writeCtrl v s).psc = s.psc) := by
    by_cases same : (writeCtrl v s).pse = s.pse ∧ (writeCtrl v s).psc = s.psc
    · exact .inr ⟨if_pos same, same.2⟩
    · exact .inl (if_neg same)
  obtain hz | ⟨hc, hq⟩ := bound
  · rw [hz]; exact prescale_pos (s := writeCtrl v s) hl
  · rw [hc]
    have ratio : (writeCtrl v s).prescale = s.prescale := by
      unfold State.prescale
      simp only [hq]
      rfl
    rwa [ratio]

/-! ### The decoder's answer (R221 to R223) -/

/-- The interrupt with source code 15 is the external one. -/
theorem cause_eq_extIrqCause {c : Word} (h31 : c.getLsbD 31 = true) (hc : c &&& 0x7FFFFFFF#32 = 15#32) :
    c = extIrqCause := by
  have low : c.setWidth 31 = 15#31 := by
    have hw := congrArg (BitVec.setWidth 31) hc
    rwa [BitVec.setWidth_and, show (0x7FFFFFFF#32).setWidth 31 = BitVec.allOnes 31 from rfl, BitVec.and_allOnes] at hw
  rw [← irqCause_setWidth h31, low]
  rfl

/-- The decoder serves one interrupt and one exception, and halts at any other cause. -/
theorem decodeCause_cases (c : Word) :
    (c = 0x8000000F#32 ∧ decodeCause c = .picRead .trap) ∨ (c = 11#32 ∧ decodeCause c = .syscall) ∨
      ∃ r, decodeCause c = .halted r := by
  unfold decodeCause
  dsimp only
  split
  · next h31 =>
    split
    · next hc => exact .inl ⟨cause_eq_extIrqCause h31 hc, rfl⟩
    · exact .inr (.inr ⟨_, rfl⟩)
  · split
    · next h => exact .inr (.inl ⟨h, rfl⟩)
    · exact .inr (.inr ⟨_, rfl⟩)

/-! ### The invariant under the parts a step is made of -/

/-- The queue of stimuli plays no part in the invariant. -/
theorem Inv.withInputs (hi : Inv s) (ins : List Stimulus) : Inv { s with inputs := ins } :=
  { hi with }

/-- Where no handler runs, no driver operation of a handler's is in progress. -/
theorem Inv.handlerOp_none (hi : Inv s) (h : s.issuer ≠ some .handler) : s.handlerOp = none :=
  Option.eq_none_iff_forall_ne_some.mpr fun g hg => h (hi.handlerOp g hg).2

theorem Inv.fault (hi : Inv s) (hf : s.faults = []) (k : Fault) : Inv (recordFault k s) :=
  { hi with oneFault := by simp [hf] }

/-- A read transaction. -/
theorem Inv.read (hi : Inv s) (r : BusReg) : Inv (latch (memRead r s)) :=
  { hi with sampled := rfl }

/-- A write transaction: only T_CTRL's can move the bound of `psc_cnt`. -/
theorem Inv.write (hi : Inv s) (r : BusReg) (v : Word) : Inv (latch (memWrite r v s)) := by
  cases r with
  | tCtrl => exact { hi with sampled := rfl, psc := writeCtrl_pscCnt_lt v hi.legal hi.psc }
  | _ => exact { hi with sampled := rfl }

/-- The agent that may issue starts a driver operation. -/
theorem Inv.startOp (hi : Inv s) {a : Agent} (ha : s.issuer = some a) {g : InFlight} (hg : Started s g) :
    Inv (s.withOp a (some g)) := by
  cases a with
  | host =>
    obtain ⟨-, he⟩ | ⟨h, -⟩ := issuer_cases ha
    · have noOrigin : s.origin = none := by simp [State.origin, he]
      exact { hi with
        hostOp := fun x hx => by cases hx; exact hg
        hostDispatch := fun ho => by cases noOrigin.symm.trans ho }
    · cases h
  | handler => exact { hi with handlerOp := fun x hx => by cases hx; exact ⟨hg, ha⟩ }

/-- A driver operation in progress ends. -/
theorem Inv.endOp (hi : Inv s) (a : Agent) : Inv (s.withOp a none) := by
  cases a with
  | host => exact { hi with hostOp := nofun, hostDispatch := fun _ => rfl }
  | handler => exact { hi with handlerOp := nofun }

theorem Inv.tick (hi : Inv s) : Inv (latch (timerTick s)) := by
  have psc := timerTick_pscCnt_lt hi.psc
  rw [timerTick_eq s] at psc ⊢
  exact { hi with sampled := rfl, psc := psc }

/-- `pic.init` fills the table as a whole. -/
theorem Inv.init (hi : Inv s) :
    Inv (latch { s with slots := Vector.replicate 32 (.holds .defaultHandler), initialised := true }) :=
  { hi with
    sampled := rfl
    table := fun n => by simp
    hostOp := fun g hg => ⟨(hi.hostOp g hg).1, fun _ => rfl⟩
    handlerOp := fun g hg =>
      have ⟨⟨two, _⟩, handler⟩ := hi.handlerOp g hg
      ⟨⟨two, fun _ => rfl⟩, handler⟩ }

/-- Registering a handler leaves no slot of an initialised table empty. -/
theorem Inv.register (hi : Inv s) (h : s.initialised = true) (n : Fin 32) (id : HandlerId) :
    Inv (latch { s with slots := s.slots.set n.val (.holds (.registered id)) }) := by
  have filled (m : Fin 32) : s.slots[m] ≠ .uninit := fun e => by simp [(hi.table m).mp e] at h
  have written (m : Fin 32) : (s.slots.set n.val (.holds (.registered id)))[m] ≠ .uninit := by
    by_cases e : n.val = m.val
    · simp [e]
    · simpa [Vector.getElem_set_ne n.isLt m.isLt e] using filled m
  exact { hi with
    sampled := rfl
    table := fun m => ⟨fun e => absurd e (written m), fun e => by cases h.symm.trans e⟩ }

/-! ### The invariant under the engine's own changes -/

/-- What the invariant asks of the trap in service (R221, R224, R226). -/
structure ServesCause (s : State) : Prop where
  irqCause : s.origin = some .trap → s.cause = 0x8000000F#32
  syscallCause : s.engine = .syscall → s.cause = 11#32
  resume : s.engine = .returning →
    (s.cause = 0x8000000F#32 ∧ s.resumePc = s.epc) ∨ (s.cause = 11#32 ∧ s.resumePc = s.epc + 4#32)

/-- The trap engine's own registers replaced, while no handler's operation is in progress. -/
theorem Inv.setEngine (hi : Inv s) (hh : s.handlerOp = none) {e : Engine} {cause epc resume : Word} {snap : Snapshot}
    (serves : ServesCause { s with engine := e, cause := cause, epc := epc, resumePc := resume })
    (hd : State.origin { s with engine := e } = some .host → s.hostOp = none) :
    Inv (latch { s with engine := e, cause := cause, epc := epc, resumePc := resume, snap := snap }) :=
  { hi with
    sampled := rfl
    handlerOp := fun g hg => by cases hh.symm.trans hg
    hostDispatch := hd
    irqCause := serves.irqCause
    syscallCause := serves.syscallCause
    resume := serves.resume }

theorem Inv.trap (hi : Inv s) (he : s.engine = .idle) (cause epc : Word) (regs : Snapshot) :
    Inv (latch { s with cause := cause, epc := epc, snap := regs, engine := .decode }) :=
  hi.setEngine (hi.handlerOp_none (by simp [State.issuer, he])) ⟨nofun, nofun, nofun⟩ nofun

theorem Inv.dispatch (hi : Inv s) (he : s.engine = .idle) (ho : s.hostOp = none) :
    Inv (latch { s with engine := .picRead .host }) :=
  hi.setEngine (hi.handlerOp_none (by simp [State.issuer, he])) ⟨nofun, nofun, nofun⟩ fun _ => ho

/-- Every move of an operation keeps the invariant. -/
theorem Move.inv (m : Move s t) (hi : Inv s) (hf : s.faults = []) : Inv t := by
  cases m with
  | quiet => rwa [latch_of_sampled hi.sampled]
  | read r => exact hi.read r
  | write r v => exact hi.write r v
  | opRead r ha _ hg => exact (hi.startOp ha hg).read r
  | @opWrite a _ _ r v => exact (hi.endOp a).write r v
  | init => exact hi.init
  | register _ h n id => exact hi.register h n id
  | dispatch hr =>
    obtain ⟨-, he, ho⟩ := hr
    exact hi.dispatch he ho
  | fault k => exact hi.fault hf k
  | line => exact { hi with sampled := rfl }
  | tick => exact hi.tick
  | trap he cause epc regs => exact hi.trap he cause epc regs

theorem Inv.engineDecode (hi : Inv s) (he : s.engine = .decode) : Inv (engineDecode s) := by
  have hh : s.handlerOp = none := hi.handlerOp_none (by simp [State.issuer, he])
  unfold Machine.engineDecode
  obtain ⟨hc, e⟩ | ⟨hc, e⟩ | ⟨r, e⟩ := decodeCause_cases s.cause
  · rw [e]; exact hi.setEngine hh ⟨fun _ => hc, nofun, nofun⟩ nofun
  · rw [e]; exact hi.setEngine hh ⟨nofun, fun _ => hc, nofun⟩ nofun
  · rw [e]; exact hi.setEngine hh ⟨nofun, nofun, nofun⟩ nofun

/-- A phase of a dispatch follows another of the same origin. -/
theorem Inv.nextPhase (hi : Inv s) (hh : s.handlerOp = none) {o : Origin} {e : Engine} (ho : s.origin = some o)
    (heo : State.origin { s with engine := e } = some o) : Inv (latch { s with engine := e }) :=
  hi.setEngine hh
    ⟨fun h => hi.irqCause (ho.trans (heo.symm.trans h)), fun h : e = .syscall => (by rw [h] at heo; cases heo),
      fun h : e = .returning => (by rw [h] at heo; cases heo)⟩
    fun h => hi.hostDispatch (ho.trans (heo.symm.trans h))

theorem Inv.enginePicRead (hi : Inv s) (hf : s.faults = []) {o : Origin} (he : s.engine = .picRead o) :
    Inv (enginePicRead o s) := by
  have hread : Inv (memRead .status s) := { hi with }
  obtain ⟨-, e⟩ | ⟨line, c, -, -, e⟩ := enginePicRead_cases o s
  · rw [e]; exact hread.fault hf _
  · rw [e]
    have next : Inv (latch { s with engine := .invoking o line c }) :=
      hi.nextPhase (hi.handlerOp_none (by simp [State.issuer, he])) (o := o) (by simp [State.origin, he]) rfl
    exact { next with sampled := rfl }

theorem Inv.engineHandlerDone (hi : Inv s) {o : Origin} {line : Fin 32} {c : Callback}
    (he : s.engine = .invoking o line c) (hn : s.issuer = some .handler → s.handlerOp = none) : Inv (engineHandlerDone o line s) := by
  have hh : s.handlerOp = none := by
    by_cases h : s.issuer = some .handler
    · exact hn h
    · exact hi.handlerOp_none h
  exact hi.nextPhase hh (o := o) (by simp [State.origin, he]) rfl

theorem Inv.engineAck (hi : Inv s) {o : Origin} {line : Fin 32} (he : s.engine = .acking o line) :
    Inv (engineAck o line s) := by
  have hw : Inv (latch (memWrite .ack (lineMask line) s)) := hi.write .ack (lineMask line)
  have hh : s.handlerOp = none := hi.handlerOp_none (by simp [State.issuer, he])
  cases o with
  | trap =>
    have cause : s.cause = 0x8000000F#32 := hi.irqCause (by simp [State.origin, he])
    have next : Inv (latch { latch (memWrite .ack (lineMask line) s) with engine := .returning, resumePc := s.epc }) :=
      hw.setEngine hh ⟨nofun, nofun, fun _ => .inl ⟨cause, rfl⟩⟩ nofun
    exact { next with sampled := rfl }
  | host =>
    have next : Inv (latch { latch (memWrite .ack (lineMask line) s) with engine := .idle }) :=
      hw.setEngine hh ⟨nofun, nofun, nofun⟩ nofun
    exact { next with sampled := rfl }

theorem Inv.engineSyscall (hi : Inv s) (he : s.engine = .syscall) (r : Word) (n : Nat) :
    Inv (engineSyscall r { s with draws := n }) := by
  have next : Inv (latch { s with engine := .returning, resumePc := s.epc + 4#32 }) :=
    hi.setEngine (hi.handlerOp_none (by simp [State.issuer, he]))
      ⟨nofun, nofun, fun _ => .inr ⟨hi.syscallCause he, rfl⟩⟩ nofun
  exact { next with sampled := rfl }

theorem Inv.trapReturn (hi : Inv s) (he : s.engine = .returning) : Inv (trapReturn s) := by
  have next : Inv (latch { s with engine := .idle }) :=
    hi.setEngine (hi.handlerOp_none (by simp [State.issuer, he])) ⟨nofun, nofun, nofun⟩ nofun
  exact { next with sampled := rfl }

/-- Every move of the trap engine keeps the invariant. -/
theorem EngineMove.inv (m : EngineMove s t) (hi : Inv s) (hf : s.faults = []) : Inv t := by
  cases m with
  | decode he => exact hi.engineDecode he
  | picRead he => exact hi.enginePicRead hf he
  | handlerDone he hn => exact hi.engineHandlerDone he hn
  | ack he => exact hi.engineAck he
  | syscall he r n => exact hi.engineSyscall he r n
  | trapDone he => exact hi.trapReturn he

/-! ### The candidates (R124) -/

theorem candidates_getLsbD (s : State) (n : Nat) :
    s.candidates.getLsbD n = (s.pending.getLsbD n && s.enable.getLsbD n) :=
  BitVec.getLsbD_and

/-- A candidate set that is not 0 has a candidate. -/
theorem candidates_ne_zero : s.candidates ≠ 0#32 ↔ ∃ n : Fin 32, s.candidates.getLsbD n.val = true := by
  constructor
  · intro h
    by_contra hn
    refine h (BitVec.eq_of_getLsbD_eq fun k hk => ?_)
    rw [BitVec.getLsbD_zero]
    exact eq_false_of_ne_true fun hk' => hn ⟨⟨k, hk⟩, hk'⟩
  · rintro ⟨n, hn⟩ h
    simp [h] at hn

theorem mem_candidateLines {n : Fin 32} : n ∈ s.candidateLines ↔ s.candidates.getLsbD n.val = true := by
  simp [State.candidateLines, allLines]

theorem candidateLines_eq_nil : s.candidateLines = [] ↔ s.candidates = 0#32 := by
  rw [← not_iff_not, ← ne_eq s.candidates, candidates_ne_zero, List.eq_nil_iff_forall_not_mem]
  simp [mem_candidateLines]

theorem candidateLines_pairwise (s : State) : s.candidateLines.Pairwise (· < ·) :=
  (List.sortedLT_finRange 32).pairwise.filter _

/-! ### The better of two priorities (R125) -/

/-- Priority `a` wins against `b`, or is its equal. -/
def AtLeastAsGood (o : PrioOrder) (a b : BitVec 5) : Prop :=
  match o with
  | .higherWins => b ≤ a
  | .lowerWins => a ≤ b

theorem atLeastAsGood_refl (o : PrioOrder) (a : BitVec 5) : AtLeastAsGood o a a := by
  cases o <;> exact BitVec.le_refl a

theorem AtLeastAsGood.trans {o : PrioOrder} {a b c : BitVec 5} (h : AtLeastAsGood o a b) (h' : AtLeastAsGood o b c) :
    AtLeastAsGood o a c := by
  cases o with
  | higherWins => exact BitVec.le_trans h' h
  | lowerWins => exact BitVec.le_trans h h'

theorem betterPrio_cases (o : PrioOrder) (a b : BitVec 5) :
    (betterPrio o a b = a ∧ AtLeastAsGood o a b) ∨ (betterPrio o a b = b ∧ AtLeastAsGood o b a) := by
  cases o with
  | higherWins =>
    by_cases h : a < b
    · exact .inr ⟨if_pos h, BitVec.le_of_lt h⟩
    · exact .inl ⟨if_neg h, BitVec.not_lt.mp h⟩
  | lowerWins =>
    by_cases h : b < a
    · exact .inr ⟨if_pos h, BitVec.le_of_lt h⟩
    · exact .inl ⟨if_neg h, BitVec.not_lt.mp h⟩

/-- The fold over a list of lines finds a priority that occurs and that no other beats. -/
theorem foldl_betterPrio (o : PrioOrder) (f : Fin 32 → BitVec 5) (b : BitVec 5) (ns : List (Fin 32)) :
    let best := ns.foldl (fun b n => betterPrio o b (f n)) b
    (best = b ∨ ∃ n ∈ ns, f n = best) ∧ AtLeastAsGood o best b ∧ ∀ n ∈ ns, AtLeastAsGood o best (f n) := by
  induction ns generalizing b with
  | nil => exact ⟨.inl rfl, atLeastAsGood_refl o b, nofun⟩
  | cons m ns ih =>
    rw [List.foldl_cons]
    obtain ⟨e, w⟩ | ⟨e, w⟩ := betterPrio_cases o b (f m)
    · rw [e]
      obtain ⟨occurs, wins, winsAll⟩ := ih b
      exact ⟨occurs.imp_right fun ⟨n, hn, e⟩ => ⟨n, List.mem_cons_of_mem m hn, e⟩, wins,
        List.forall_mem_cons.mpr ⟨wins.trans w, winsAll⟩⟩
    · rw [e]
      obtain ⟨occurs, wins, winsAll⟩ := ih (f m)
      refine ⟨.inr ?_, wins.trans w, List.forall_mem_cons.mpr ⟨wins, winsAll⟩⟩
      obtain e | ⟨n, hn, e⟩ := occurs
      · exact ⟨m, List.mem_cons_self, e.symm⟩
      · exact ⟨n, List.mem_cons_of_mem m hn, e⟩

/-! ### The selected line (R125) -/

theorem selLine_no_candidate (h : s.candidates = 0#32) : s.selLine = 0 := by
  unfold State.selLine
  rw [candidateLines_eq_nil.mpr h]

/-- In an increasing list of lines, the one `find?` answers is the least that meets the test. -/
theorem find?_le {ns : List (Fin 32)} {p : Fin 32 → Bool} {m n : Fin 32} (sorted : ns.Pairwise (· < ·))
    (hf : ns.find? p = some m) (hn : n ∈ ns) (hp : p n = true) : m ≤ n := by
  obtain ⟨-, before, after, rfl, rejected⟩ := List.find?_eq_some_iff_append.mp hf
  obtain hb | hn := List.mem_append.mp hn
  · simpa [hp] using rejected n hb
  · obtain rfl | ha := List.mem_cons.mp hn
    · exact le_refl n
    · exact (List.rel_of_pairwise_cons (List.pairwise_append.mp sorted).2.1 ha).le

/-- With a candidate, the selected line is the first of the candidates that has a priority which none of them beats. -/
theorem selLine_find (h : s.candidates ≠ 0#32) :
    ∃ best, s.candidateLines.find? (fun n => s.prio[n] == best) = some s.selLine ∧
      ∀ n ∈ s.candidateLines, AtLeastAsGood s.params.prioOrder best s.prio[n] := by
  cases hc : s.candidateLines with
  | nil => exact absurd (candidateLines_eq_nil.mp hc) h
  | cons c cs =>
    obtain ⟨occurs, winsFirst, winsRest⟩ := foldl_betterPrio s.params.prioOrder (fun n => s.prio[n]) s.prio[c] cs
    refine ⟨_, ?_, List.forall_mem_cons.mpr ⟨winsFirst, winsRest⟩⟩
    unfold State.selLine
    rw [hc]
    refine (Option.eq_some_of_isSome (List.find?_isSome.mpr ?_)).trans (congrArg some (Option.get_eq_getD ..))
    obtain e | ⟨n, hn, e⟩ := occurs
    · exact ⟨c, List.mem_cons_self, beq_iff_eq.mpr e.symm⟩
    · exact ⟨n, List.mem_cons_of_mem c hn, beq_iff_eq.mpr e⟩

/-- With a candidate, the selected line is one, of a priority no candidate beats, and lowest among its equals. -/
theorem selLine_best (h : s.candidates ≠ 0#32) :
    s.selLine ∈ s.candidateLines ∧ ∀ n ∈ s.candidateLines,
      AtLeastAsGood s.params.prioOrder s.prio[s.selLine] s.prio[n] ∧ (s.prio[n] = s.prio[s.selLine] → s.selLine ≤ n) := by
  obtain ⟨best, hfind, wins⟩ := selLine_find h
  have hbest : s.prio[s.selLine] = best := by simpa using List.find?_some hfind
  rw [hbest]
  exact ⟨List.mem_of_find?_eq_some hfind, fun n hn =>
    ⟨wins n hn, fun e => find?_le (candidateLines_pairwise s) hfind hn (by simp [e])⟩⟩

/-! ### Driving a line (R120) -/

/-- Line 0 is the timer's output, and line `k + 1` the environment's bit `k` (R30). -/
theorem irqIn_getLsbD (s : State) (m : Nat) :
    s.irqIn.getLsbD m = if m = 0 then s.timerOut else s.irqLines.getLsbD (m - 1) := by
  refine (BitVec.getLsbD_append (x := s.irqLines) (y := BitVec.ofBool s.timerOut)).trans ?_
  cases m <;> simp

theorem setLine_getLsbD (lines : BitVec 31) {k j : Nat} (b : Bool) (hj : j < 31) :
    (setLine lines k b).getLsbD j = if j = k then b else lines.getLsbD j := by
  have mask : (1#31 <<< k).getLsbD j = decide (j = k) := by
    rw [show 1#31 <<< k = BitVec.twoPow 31 k from rfl, BitVec.getLsbD_twoPow, Bool.eq_iff_iff]
    simp only [Bool.and_eq_true, decide_eq_true_eq]
    omega
  unfold setLine
  split
  · next hb => rw [BitVec.getLsbD_or, mask]; by_cases e : j = k <;> simp [e, hb]
  · next hb => rw [BitVec.getLsbD_and, BitVec.getLsbD_not, mask]; by_cases e : j = k <;> simp [e, hb, hj]

/-- The inputs once line `n` is driven. -/
theorem irqIn_setLine (s : State) {n m : Nat} (b : Bool) (hn : 1 ≤ n) (hm : m < 32) :
    (State.irqIn { s with irqLines := setLine s.irqLines (n - 1) b }).getLsbD m =
      if m = n then b else s.irqIn.getLsbD m := by
  rw [irqIn_getLsbD, irqIn_getLsbD]
  by_cases h0 : m = 0
  · rw [if_pos h0, if_pos h0, if_neg (by omega)]
    rfl
  · rw [if_neg h0, if_neg h0, setLine_getLsbD _ _ (by omega)]
    simp only [show m - 1 = n - 1 ↔ m = n by omega]

theorem execEvLine_in {n : Word} (b : Bool) (hf : s.faults = []) (h1 : 1 ≤ n.toNat) (h31 : n.toNat ≤ 31) :
    exec (.evLine n b) s = .next (latch { s with irqLines := setLine s.irqLines (n.toNat - 1) b }) :=
  (unfaulted_clear hf).trans (if_pos ⟨h1, h31⟩)

theorem execEvLine_out {n : Word} (b : Bool) (hf : s.faults = []) (h : n.toNat = 0 ∨ 31 < n.toNat) :
    exec (.evLine n b) s = .refused .lineNotEnvironment :=
  (unfaulted_clear hf).trans (if_neg (by omega))

end Machine

open Machine

/-- Settles O14: a step is a move of an operation or of the engine, or waits, and each of them keeps the invariant. -/
theorem stepKeepsInvariant : Obligations.StepKeepsInvariant := by
  intro s t hi h
  obtain ⟨hf, ins, rfl | m | m⟩ := step_next h
  · exact hi.withInputs ins
  · exact m.inv (hi.withInputs ins) hf
  · exact m.inv (hi.withInputs ins) hf

/-- Settles O23: the fold finds the best priority among the candidates, and the search the lowest line that has it. -/
theorem selectedLineIsBestCandidate : Obligations.SelectedLineIsBestCandidate := by
  intro s c
  refine ⟨rfl, selLine_no_candidate, fun h => ?_⟩
  obtain ⟨isCandidate, best⟩ := selLine_best (s := s) h
  refine ⟨mem_candidateLines.mp isCandidate, fun n hn => ?_⟩
  obtain ⟨wins, lowest⟩ := best n (mem_candidateLines.mpr hn)
  refine ⟨?_, lowest⟩
  cases ho : s.params.prioOrder <;> simpa only [AtLeastAsGood, ho] using wins

/-- Settles O24: the candidate set is not 0 exactly when some line is pending and enabled. -/
theorem requestNeedsMasterAndCandidate : Obligations.RequestNeedsMasterAndCandidate := by
  intro s
  unfold State.irqOut
  rw [Bool.and_eq_true, bne_iff_ne, candidates_ne_zero]
  simp only [candidates_getLsbD, Bool.and_eq_true]

/-- Settles O26: the driven line is the one input that moves, and the latch adds its rising edge. -/
theorem lineEventLatchesRisingEdge : Obligations.LineEventLatchesRisingEdge := by
  intro s n b hf hs
  refine ⟨fun h1 h31 => ?_, execEvLine_out b hf, _, rfl⟩
  have inputs (m : Nat) (hm : m < 32) := irqIn_setLine s b h1 hm
  refine ⟨_, execEvLine_in b hf h1 h31, inputs, rfl, fun m hm => ?_, rfl⟩
  rw [latch_pending_getLsbD _ hm, inputs m hm, show s.irqPrev = s.irqIn from hs]
  by_cases e : m = n.toNat <;> simp [e]

end Sys2Proof

/-! PROOFS. The statements of 42_pic_driver_ops.md: what each driver operation of the PIC writes, when it faults, and that
running a setter twice is running it once. -/

namespace Sys2Proof

namespace Machine

variable {s : State}

/-! ### Admission -/

/-- A program may issue an operation, after `pic.init`, and the latch has sampled the inputs. -/
structure Admitted (s : State) : Prop where
  ready : Ready s
  sampled : Sampled s
  initialised : s.initialised = true

theorem live_of_ready (h : Ready s) : Live s := by
  obtain ⟨hf, a, ha, -⟩ := h
  exact live_of_issuer hf ha

theorem Admitted.afterInit (h : Admitted s) (k : Result) : afterInit s k = k :=
  afterInit_initialised (live_of_ready h.ready) h.initialised

/-- An admitted one-step operation that moves no input: the latch at its end sees no edge. -/
theorem oneStep_sampled {f : State → State} (h : Ready s) (hs : Sampled s) (hp : (f s).irqPrev = s.irqPrev)
    (hi : (f s).irqIn = s.irqIn) : oneStep f s = .next (f s) := by
  rw [oneStep_ready h, latch_of_irqIn_eq hs hp hi]

/-- A write of the handler table that the host issues in `Main`. -/
theorem HostReady.outsideTrap_oneStep {f : State → State} (h : HostReady s) (hs : Sampled s)
    (hp : (f s).irqPrev = s.irqPrev) (hi : (f s).irqIn = s.irqIn) : outsideTrap s (oneStep f s) = .next (f s) := by
  have main : s.context = .main := by simp [State.context, h.2.1]
  rw [outsideTrap_main (live_of_idle h.1 h.2.1) main, oneStep_sampled (ready_of_hostReady h) hs hp hi]

/-! ### The operations of one step, case by case -/

theorem picInit_hostReady (h : HostReady s) (hs : Sampled s) :
    exec .picInit s = .next { s with slots := Vector.replicate 32 (.holds .defaultHandler), initialised := true } :=
  h.outsideTrap_oneStep hs rfl rfl

section
variable {line : Word}

theorem picRegisterHandler_in (h : HostReady s) (hs : Sampled s) (hi : s.initialised = true) (id : HandlerId)
    (hl : line.toNat < 32) : exec (.picRegisterHandler line id) s =
      .next { s with slots := s.slots.set line.toNat (.holds (.registered id)) } := by
  change execPicRegisterHandler line id s = _
  rw [execPicRegisterHandler, afterInit_initialised (live_of_idle h.1 h.2.1) hi, lineOperand_in hl]
  exact h.outsideTrap_oneStep hs rfl rfl

theorem picRegisterHandler_out (h : HostReady s) (hs : Sampled s) (hi : s.initialised = true) (id : HandlerId)
    (hl : 32 ≤ line.toNat) : exec (.picRegisterHandler line id) s = .next s := by
  change execPicRegisterHandler line id s = _
  rw [execPicRegisterHandler, afterInit_initialised (live_of_idle h.1 h.2.1) hi, lineOperand_out hl]
  exact h.outsideTrap_oneStep hs rfl rfl

/-- The step of an operation on a line that does not exist: no transaction (R148). -/
theorem Admitted.quiet (h : Admitted s) : Machine.afterInit s (oneStep id s) = .next s := by
  rw [h.afterInit, oneStep_sampled h.ready h.sampled rfl rfl, id_eq]

theorem picEnableInterrupt_out (h : Admitted s) (hl : 32 ≤ line.toNat) :
    exec (.picEnableInterrupt line) s = .next s := by
  change execPicEnableInterrupt line s = _
  rw [execPicEnableInterrupt, lineOperand_out hl, h.quiet]

theorem picDisableInterrupt_out (h : Admitted s) (hl : 32 ≤ line.toNat) :
    exec (.picDisableInterrupt line) s = .next s := by
  change execPicDisableInterrupt line s = _
  rw [execPicDisableInterrupt, lineOperand_out hl, h.quiet]

theorem picSetPriority_out (h : Admitted s) (p : Word) (hl : 32 ≤ line.toNat) :
    exec (.picSetPriority line p) s = .next s := by
  change execPicSetPriority line p s = _
  rw [execPicSetPriority, lineOperand_out hl, h.quiet]

theorem clampPriority_eq_ofNat (p : Word) : clampPriority p = BitVec.ofNat 32 (min p.toNat 31) := by
  unfold clampPriority
  split
  · next h => rw [min_eq_right h.le]
  · next h => rw [min_eq_left (by omega), BitVec.ofNat_toNat, BitVec.setWidth_eq]

theorem priorityField_eq_ofNat (p : Word) : priorityField p = BitVec.ofNat 5 (min p.toNat 31) := by
  rw [← priorityField_toNat, BitVec.ofNat_toNat, BitVec.setWidth_eq]

/-- The one write transaction of `pic.set_priority` (R147). -/
theorem picSetPriority_in (h : Admitted s) (p : Word) (hl : line.toNat < 32) :
    exec (.picSetPriority line p) s = .next { s with
      prio := s.prio.set line.toNat (BitVec.ofNat 5 (min p.toNat 31))
      trace := .write (.prio ⟨line.toNat, hl⟩) (BitVec.ofNat 32 (min p.toNat 31)) :: s.trace } := by
  change execPicSetPriority line p s = _
  rw [execPicSetPriority, h.afterInit, lineOperand_in hl, ← priorityField_eq_ofNat, ← priorityField_clampPriority,
    ← clampPriority_eq_ofNat]
  exact busWrite_pic rfl _ h.ready h.sampled

end

/-! ### The faults before `pic.init`, and the transactions that have none (R141) -/

theorem exec_of_needsInit {i : Instr} (h : needsInit i = true) : ∃ k, exec i s = afterInit s k := by
  cases i with
  | picRegisterHandler | picMasterEnable | picMasterDisable | picEnableInterrupt | picDisableInterrupt
  | picSetPriority | picDispatch => exact ⟨_, rfl⟩
  | _ => cases h

/-- An operation of the bus port is the transaction of a register, with no guard but a program's admission (R100, R186). -/
theorem exec_of_busreq {i : Instr} {ws : List Word} (h : encode i = .busreq ws) :
    (∃ r, exec i s = busRead r s) ∨ ∃ r v, exec i s = busWrite r v s := by
  cases i with
  | rdPicStatus | rdPicEnable | rdPicPending | rdPicAck
  | rdPicPrio0 | rdPicPrio1 | rdPicPrio2 | rdPicPrio3 | rdPicPrio4 | rdPicPrio5 | rdPicPrio6 | rdPicPrio7
  | rdPicPrio8 | rdPicPrio9 | rdPicPrio10 | rdPicPrio11 | rdPicPrio12 | rdPicPrio13 | rdPicPrio14 | rdPicPrio15
  | rdPicPrio16 | rdPicPrio17 | rdPicPrio18 | rdPicPrio19 | rdPicPrio20 | rdPicPrio21 | rdPicPrio22 | rdPicPrio23
  | rdPicPrio24 | rdPicPrio25 | rdPicPrio26 | rdPicPrio27 | rdPicPrio28 | rdPicPrio29 | rdPicPrio30 | rdPicPrio31
  | rdTmrCtrl | rdTmrCount | rdTmrReload | rdTmrMatch | rdTmrIen | rdTmrIpend | rdTmrIack => exact .inl ⟨_, rfl⟩
  | wrPicStatus | wrPicEnable | wrPicPending | wrPicAck
  | wrPicPrio0 | wrPicPrio1 | wrPicPrio2 | wrPicPrio3 | wrPicPrio4 | wrPicPrio5 | wrPicPrio6 | wrPicPrio7
  | wrPicPrio8 | wrPicPrio9 | wrPicPrio10 | wrPicPrio11 | wrPicPrio12 | wrPicPrio13 | wrPicPrio14 | wrPicPrio15
  | wrPicPrio16 | wrPicPrio17 | wrPicPrio18 | wrPicPrio19 | wrPicPrio20 | wrPicPrio21 | wrPicPrio22 | wrPicPrio23
  | wrPicPrio24 | wrPicPrio25 | wrPicPrio26 | wrPicPrio27 | wrPicPrio28 | wrPicPrio29 | wrPicPrio30 | wrPicPrio31
  | wrTmrCtrl | wrTmrCount | wrTmrReload | wrTmrMatch | wrTmrIen | wrTmrIpend | wrTmrIack => exact .inr ⟨_, _, rfl⟩
  | _ => cases h

/-- A transaction of a program that may issue it records no fault. -/
theorem exec_busreq_ready {i : Instr} {ws : List Word} (hb : encode i = .busreq ws) (h : Ready s) :
    ∃ t, exec i s = .next t ∧ t.faults = [] := by
  obtain ⟨r, e⟩ | ⟨r, v, e⟩ := exec_of_busreq (s := s) hb
  · exact ⟨_, e.trans (oneStep_ready h), h.1⟩
  · exact ⟨_, e.trans (oneStep_ready h), by rw [latch_faults, memWrite_faults, h.1]⟩

/-! ### The setters of two transactions (R74) -/

/-- In an initialised block `op` is the read of `r` and the write of `f` of the word it read, in two steps. -/
def Setter (op : Instr) (r : BusReg) (f : Params → Word → Word) : Prop :=
  twoTransactions op = true ∧
    ∀ s : State, Live s → s.initialised = true → exec op s = readModifyWrite op r (f s.params) s

theorem setter_picMasterEnable : Setter .picMasterEnable .status fun p => setBits (mieMask p) :=
  ⟨rfl, fun _ => afterInit_initialised⟩

theorem setter_picMasterDisable : Setter .picMasterDisable .status fun p => clearBits (mieMask p) :=
  ⟨rfl, fun _ => afterInit_initialised⟩

theorem setter_picEnableInterrupt {line : Word} (hl : line.toNat < 32) :
    Setter (.picEnableInterrupt line) .enable fun _ => setBits (1#32 <<< line.toNat) := by
  refine ⟨decide_eq_true hl, fun s h hi => (afterInit_initialised h hi).trans ?_⟩
  rw [lineOperand_in hl]
  rfl

theorem setter_picDisableInterrupt {line : Word} (hl : line.toNat < 32) :
    Setter (.picDisableInterrupt line) .enable fun _ => clearBits (1#32 <<< line.toNat) := by
  refine ⟨decide_eq_true hl, fun s h hi => (afterInit_initialised h hi).trans ?_⟩
  rw [lineOperand_in hl]
  rfl

theorem setter_tmrStart : Setter .tmrStart .tCtrl fun _ => setBits startMask :=
  ⟨rfl, fun _ _ _ => rfl⟩

theorem setter_tmrStop : Setter .tmrStop .tCtrl fun _ => clearBits startMask :=
  ⟨rfl, fun _ _ _ => rfl⟩

section
variable {op : Instr} {r : BusReg} {f : Params → Word → Word} {a : Agent}

theorem Setter.read (h : Setter op r f) (hf : s.faults = []) (ha : s.issuer = some a) (hi : s.initialised = true)
    (hs : Sampled s) (hn : s.inFlight a = none) :
    exec op s = .next { s.withOp a (some ⟨op, readReg r s⟩) with trace := .read r (readReg r s) :: s.trace } :=
  (h.2 s (live_of_issuer hf ha) hi).trans (readModifyWrite_read hf ha hs hn)

/-- The second step, when its write does not move the timer's output. -/
theorem Setter.write {c : Word} (h : Setter op r f) (hf : s.faults = []) (ha : s.issuer = some a)
    (hi : s.initialised = true) (hs : Sampled s) (hn : s.inFlight a = some ⟨op, c⟩)
    (quiet : (writeReg r (f s.params c) s).irqIn = s.irqIn) :
    exec op s = .next { (writeReg r (f s.params c) s).withOp a none with
      trace := .write r (f s.params c) :: s.trace } := by
  have written : memWrite r (f s.params c) (s.withOp a none) =
      { (writeReg r (f s.params c) s).withOp a none with trace := .write r (f s.params c) :: s.trace } := by
    cases a <;> cases r <;> rfl
  rw [h.2 s (live_of_issuer hf ha) hi, readModifyWrite_inProgress hf ha hn, written,
    latch_of_irqIn_eq hs (by simp) (by cases a <;> exact quiet)]

/-- The state between the two steps of `op` (R74). -/
def betweenSteps (op : Instr) (r : BusReg) (a : Agent) (s : State) : State :=
  { s.withOp a (some ⟨op, readReg r s⟩) with trace := .read r (readReg r s) :: s.trace }

theorem withOp_none (hn : s.inFlight a = none) : s.withOp a none = s := by
  cases s; cases a <;> cases hn <;> rfl

/-- The write from between the steps is the write from before them, with the record of the two. -/
theorem writeReg_betweenSteps (hn : s.inFlight a = none) (v : Word) (tr : List PortEvent) :
    { (writeReg r v (betweenSteps op r a s)).withOp a none with trace := tr } =
      { writeReg r v s with trace := tr } := by
  conv_rhs => rw [← withOp_none hn]
  cases a <;> cases r <;> rfl

/-- Its two steps together, when the write does not move the timer's output: the register as `f` makes it. -/
theorem Setter.runs (h : Setter op r f) (hs : Admitted s)
    (quiet : (writeReg r (f s.params (readReg r s)) s).irqIn = s.irqIn) :
    ∃ tr, completeOp op s = .next { writeReg r (f s.params (readReg r s)) s with trace := tr } := by
  obtain ⟨⟨hf, a, ha, hn⟩, sampled, hi⟩ := hs
  have read : exec op s = .next (betweenSteps op r a s) := h.read hf ha hi sampled hn
  have still : (writeReg r (f s.params (readReg r s)) (betweenSteps op r a s)).irqIn = s.irqIn := by
    rw [← quiet]; cases a <;> cases r <;> rfl
  have write : exec op (betweenSteps op r a s) = .next
      { (writeReg r (f s.params (readReg r s)) (betweenSteps op r a s)).withOp a none with
        trace := .write r (f s.params (readReg r s)) :: (betweenSteps op r a s).trace } := by
    cases a with
    | host => exact h.write (s := betweenSteps op r .host s) hf ha hi sampled rfl still
    | handler => exact h.write (s := betweenSteps op r .handler s) hf ha hi sampled rfl still
  rw [writeReg_betweenSteps hn] at write
  have twoSteps : completeOp op s = exec op (betweenSteps op r a s) := by
    rw [completeOp, read]
    exact if_pos h.1
  exact ⟨_, twoSteps.trans write⟩

end

/-! ### What each setter leaves in its register -/

theorem setBits_setBits (m w : Word) : setBits m (setBits m w) = setBits m w := by
  simp only [setBits, BitVec.or_assoc, BitVec.or_self]

theorem clearBits_clearBits (m w : Word) : clearBits m (clearBits m w) = clearBits m w := by
  simp only [clearBits, BitVec.and_assoc, BitVec.and_self]

theorem mieMask_getLsbD (p : Params) : (mieMask p).getLsbD p.mieBit.val = true := by
  simp [mieMask]

theorem writeStatus_setMie (w : Word) (s : State) :
    writeReg .status (setBits (mieMask s.params) w) s = { s with statusMie := true } := by
  simp only [writeReg, setBits, BitVec.getLsbD_or, mieMask_getLsbD, Bool.or_true]

theorem writeStatus_clearMie (w : Word) (s : State) :
    writeReg .status (clearBits (mieMask s.params) w) s = { s with statusMie := false } := by
  simp [writeReg, clearBits, mieMask_getLsbD]

section
variable {c : BitVec 7} (hc : ∀ k, k ≠ 0 → c.getLsbD k = s.tCtrl.getLsbD k)
include hc

/-- START alone plays no part in the timer's output (R185). -/
theorem irqIn_of_startOnly : ({ s with tCtrl := c } : State).irqIn = s.irqIn := by
  refine irqIn_congr rfl ?_
  simp only [State.timerOut, State.timerIe, hc 1 (by decide)]

theorem Admitted.startOnly (h : Admitted s) (tr : List PortEvent) :
    Admitted { s with tCtrl := c, trace := tr } where
  ready := h.ready
  sampled := h.sampled.trans (irqIn_of_startOnly hc).symm
  initialised := h.initialised

/-- A control write that changes START alone does not restart the prescaler (R188). -/
theorem writeCtrl_of_startOnly {v : Word} (hv : v.setWidth 7 = c) :
    writeReg .tCtrl v s = { s with tCtrl := c } := by
  have psc : c.extractLsb' 4 3 = s.tCtrl.extractLsb' 4 3 := by
    apply BitVec.eq_of_getLsbD_eq
    intro k hk
    simp only [BitVec.getLsbD_extractLsb', hc (4 + k) (by omega)]
  simp only [writeReg, writeCtrl, hv, State.pse, State.psc, hc 2 (by decide), psc, and_self, if_true]

end

theorem setStart_startOnly (c : BitVec 7) (k : Nat) (hk : k ≠ 0) : (c ||| 1#7).getLsbD k = c.getLsbD k := by
  simp [hk]

theorem clearStart_startOnly (c : BitVec 7) (k : Nat) (hk : k ≠ 0) : (c &&& ~~~1#7).getLsbD k = c.getLsbD k := by
  rw [BitVec.getLsbD_and, BitVec.getLsbD_not, BitVec.getLsbD_one]
  simpa [hk] using BitVec.lt_of_getLsbD

theorem setBits_startMask_stored (c : BitVec 7) : (setBits startMask (c.setWidth 32)).setWidth 7 = c ||| 1#7 := by
  simp [setBits, startMask, BitVec.setWidth_or]

theorem clearBits_startMask_stored (c : BitVec 7) :
    (clearBits startMask (c.setWidth 32)).setWidth 7 = c &&& ~~~1#7 := by
  simp [clearBits, startMask, BitVec.setWidth_and]

/-! ### Each operation run to its end (R149, R200) -/

/-- Run to its end where `P` holds, `op` changes the block as `g` does, but for the record (log 8). -/
def Completes (P : State → Prop) (op : Instr) (g : State → State) : Prop :=
  ∀ s, P s → ∃ tr, completeOp op s = .next { g s with trace := tr }

/-- `op` run to its end twice leaves what running it once does, but for the record (log 8). -/
def TwiceIsOnce (op : Instr) (s : State) : Prop :=
  ∃ t u, completeOp op s = .next t ∧ completeOp op t = .next u ∧ u = { t with trace := u.trace }

/-- An operation is idempotent when what it does is, and it leaves the block ready for itself. -/
theorem Completes.twice {P : State → Prop} {op : Instr} {g : State → State} (h : Completes P op g) (hs : P s)
    (again : ∀ tr, P { g s with trace := tr })
    (idem : ∀ tr, g { g s with trace := tr } = { g s with trace := tr }) : TwiceIsOnce op s := by
  obtain ⟨tr, first⟩ := h s hs
  obtain ⟨tr', second⟩ := h _ (again tr)
  exact ⟨_, _, first, second, by rw [idem]⟩

theorem completes_of_exec {P : State → Prop} {op : Instr} {g : State → State} (one : twoTransactions op = false)
    (h : ∀ s, P s → ∃ tr, exec op s = .next { g s with trace := tr }) : Completes P op g := by
  intro s hs
  obtain ⟨tr, e⟩ := h s hs
  exact ⟨tr, by simp only [completeOp, e, one, Bool.false_eq_true, if_false]⟩

/-- A setter does the write of its second step. -/
theorem Setter.completes {op : Instr} {r : BusReg} {f : Params → Word → Word} {g : State → State} (h : Setter op r f)
    (hg : ∀ s, writeReg r (f s.params (readReg r s)) s = g s) (quiet : ∀ s, (g s).irqIn = s.irqIn) :
    Completes Admitted op g := by
  intro s hs
  obtain ⟨tr, e⟩ := h.runs hs (by rw [hg, quiet])
  exact ⟨tr, by rw [e, hg]⟩

theorem picMasterEnable_completes : Completes Admitted .picMasterEnable fun s => { s with statusMie := true } :=
  setter_picMasterEnable.completes (fun _ => writeStatus_setMie _ _) fun _ => rfl

theorem picMasterDisable_completes : Completes Admitted .picMasterDisable fun s => { s with statusMie := false } :=
  setter_picMasterDisable.completes (fun _ => writeStatus_clearMie _ _) fun _ => rfl

theorem tmrStart_completes : Completes Admitted .tmrStart fun s => { s with tCtrl := s.tCtrl ||| 1#7 } :=
  setter_tmrStart.completes
    (fun s => writeCtrl_of_startOnly (setStart_startOnly s.tCtrl) (setBits_startMask_stored s.tCtrl))
    fun s => irqIn_of_startOnly (setStart_startOnly s.tCtrl)

theorem tmrStop_completes : Completes Admitted .tmrStop fun s => { s with tCtrl := s.tCtrl &&& ~~~1#7 } :=
  setter_tmrStop.completes
    (fun s => writeCtrl_of_startOnly (clearStart_startOnly s.tCtrl) (clearBits_startMask_stored s.tCtrl))
    fun s => irqIn_of_startOnly (clearStart_startOnly s.tCtrl)

theorem picInit_completes : Completes (fun s => HostReady s ∧ Sampled s) .picInit
    fun s => { s with slots := Vector.replicate 32 (.holds .defaultHandler), initialised := true } :=
  completes_of_exec rfl fun s hs => ⟨s.trace, picInit_hostReady hs.1 hs.2⟩

section
variable {line : Word}

theorem picEnableInterrupt_completes (hl : line.toNat < 32) :
    Completes Admitted (.picEnableInterrupt line)
      fun s => { s with enable := setBits (1#32 <<< line.toNat) s.enable } :=
  (setter_picEnableInterrupt hl).completes (fun _ => rfl) fun _ => rfl

theorem picEnableInterrupt_completes_out (hl : 32 ≤ line.toNat) : Completes Admitted (.picEnableInterrupt line) id :=
  completes_of_exec (decide_eq_false hl.not_gt) fun s hs => ⟨s.trace, picEnableInterrupt_out hs hl⟩

theorem picDisableInterrupt_completes (hl : line.toNat < 32) :
    Completes Admitted (.picDisableInterrupt line)
      fun s => { s with enable := clearBits (1#32 <<< line.toNat) s.enable } :=
  (setter_picDisableInterrupt hl).completes (fun _ => rfl) fun _ => rfl

theorem picDisableInterrupt_completes_out (hl : 32 ≤ line.toNat) : Completes Admitted (.picDisableInterrupt line) id :=
  completes_of_exec (decide_eq_false hl.not_gt) fun s hs => ⟨s.trace, picDisableInterrupt_out hs hl⟩

theorem picSetPriority_completes (p : Word) (hl : line.toNat < 32) :
    Completes Admitted (.picSetPriority line p)
      fun s => { s with prio := s.prio.set line.toNat (BitVec.ofNat 5 (min p.toNat 31)) } :=
  completes_of_exec rfl fun _ hs => ⟨_, picSetPriority_in hs p hl⟩

theorem picSetPriority_completes_out (p : Word) (hl : 32 ≤ line.toNat) :
    Completes Admitted (.picSetPriority line p) id :=
  completes_of_exec rfl fun s hs => ⟨s.trace, picSetPriority_out hs p hl⟩

end

section
variable (h : Admitted s)
include h

theorem picEnableInterrupt_twice (line : Word) : TwiceIsOnce (.picEnableInterrupt line) s := by
  obtain hl | hl := Nat.lt_or_ge line.toNat 32
  · exact (picEnableInterrupt_completes hl).twice h (fun _ => { h with }) fun _ => by simp only [setBits_setBits]
  · exact (picEnableInterrupt_completes_out hl).twice h (fun _ => { h with }) fun _ => rfl

theorem picDisableInterrupt_twice (line : Word) : TwiceIsOnce (.picDisableInterrupt line) s := by
  obtain hl | hl := Nat.lt_or_ge line.toNat 32
  · exact (picDisableInterrupt_completes hl).twice h (fun _ => { h with }) fun _ => by simp only [clearBits_clearBits]
  · exact (picDisableInterrupt_completes_out hl).twice h (fun _ => { h with }) fun _ => rfl

theorem picSetPriority_twice (line p : Word) : TwiceIsOnce (.picSetPriority line p) s := by
  obtain hl | hl := Nat.lt_or_ge line.toNat 32
  · exact (picSetPriority_completes p hl).twice h (fun _ => { h with }) fun _ => by simp only [Vector.set_set]
  · exact (picSetPriority_completes_out p hl).twice h (fun _ => { h with }) fun _ => rfl

theorem tmrStart_twice : TwiceIsOnce .tmrStart s := by
  have again (tr : List PortEvent) := Admitted.startOnly (setStart_startOnly s.tCtrl) h tr
  exact tmrStart_completes.twice h again fun _ => by simp only [BitVec.or_assoc, BitVec.or_self]

theorem tmrStop_twice : TwiceIsOnce .tmrStop s := by
  have again (tr : List PortEvent) := Admitted.startOnly (clearStart_startOnly s.tCtrl) h tr
  exact tmrStop_completes.twice h again fun _ => by simp only [BitVec.and_assoc, BitVec.and_self]

end

end Machine

open Machine

/-- Settles O27: outside a trap the host's write of the table passes its guard, and in a trap it does not. -/
theorem initFillsTable : Obligations.InitFillsTable :=
  fun _ => ⟨rfl, picInit_hostReady, outsideTrap_fault⟩

/-- Settles O28: the guards are passed in the order of R142, and then the line operand is looked at. -/
theorem registerHandlerWritesOneSlot : Obligations.RegisterHandlerWritesOneSlot := by
  intro s line id
  refine ⟨⟨_, rfl⟩, afterInit_fault, fun hf hi hc => ?_, fun h hs hi => ?_⟩
  · exact (afterInit_initialised (live_of_trap hf hc) hi).trans (outsideTrap_fault hf hc)
  · exact ⟨picRegisterHandler_in h hs hi id, picRegisterHandler_out h hs hi id⟩

/-- Settles O29: both are setters of STATUS, which stores MIE alone of the word they write. -/
theorem masterEnableAndDisable : Obligations.MasterEnableAndDisable := by
  intro s a hf ha hi hs
  have enable := setter_picMasterEnable
  have disable := setter_picMasterDisable
  refine ⟨enable.read hf ha hi hs, fun c hn => ?_, disable.read hf ha hi hs, fun c hn => ?_⟩
  · rw [enable.write hf ha hi hs hn rfl, writeStatus_setMie]
    cases a <;> rfl
  · rw [disable.write hf ha hi hs hn rfl, writeStatus_clearMie]
    cases a <;> rfl

/-- Settles O30: both are setters of ENABLE, which stores the whole of the word they write. -/
theorem enableAndDisableInterrupt : Obligations.EnableAndDisableInterrupt := by
  intro s a line hf ha hi hs hl
  have enable := setter_picEnableInterrupt hl
  have disable := setter_picDisableInterrupt hl
  refine ⟨enable.read hf ha hi hs, fun c hn => ?_, disable.read hf ha hi hs, fun c hn => ?_⟩
  · rw [enable.write hf ha hi hs hn rfl]
    cases a <;> rfl
  · rw [disable.write hf ha hi hs hn rfl]
    cases a <;> rfl

/-- Settles O31: the register saturates what the driver clamped, which changes nothing. -/
theorem setPriorityWritesClamped : Obligations.SetPriorityWritesClamped :=
  fun _ _ p h hs hi => ⟨picSetPriority_in ⟨h, hs, hi⟩ p, picSetPriority_out ⟨h, hs, hi⟩ p⟩

/-- Settles O32: each of the seven is guarded by `pic.init`; a transaction of the bus port is not. -/
theorem preInitFault : Obligations.PreInitFault := by
  intro s line x id hi
  refine ⟨fun h i hmem => ?_, fun h i r hb => ?_⟩
  · have guarded : needsInit i = true := by
      simp only [List.mem_cons, List.not_mem_nil, or_false] at hmem
      obtain rfl | rfl | rfl | rfl | rfl | rfl | rfl := hmem <;> rfl
    obtain ⟨k, e⟩ := exec_of_needsInit (s := s) guarded
    rw [e, afterInit_fault h hi]
  · obtain hb | hb := hb
    · exact exec_busreq_ready hb h
    · exact exec_busreq_ready hb h

/-- Settles O33: past its guards, each of the four has no transaction for such a line. -/
theorem outOfRangeLinesAreIgnored : Obligations.OutOfRangeLinesAreIgnored := by
  intro s line x hs hi hl
  refine ⟨fun h => picRegisterHandler_out h hs hi x hl, fun h => ?_⟩
  have admitted : Admitted s := ⟨h, hs, hi⟩
  exact ⟨picEnableInterrupt_out admitted hl, picDisableInterrupt_out admitted hl, picSetPriority_out admitted x hl⟩

/-- Settles O34: what each operation does is idempotent, and leaves it admitted. -/
theorem driverOperationsAreIdempotent : Obligations.DriverOperationsAreIdempotent := by
  intro s line p h hs hi
  have admitted : Admitted s := ⟨h, hs, hi⟩
  exact ⟨picMasterEnable_completes.twice admitted (fun _ => { admitted with }) fun _ => rfl,
    picMasterDisable_completes.twice admitted (fun _ => { admitted with }) fun _ => rfl,
    picEnableInterrupt_twice admitted line, picDisableInterrupt_twice admitted line,
    picSetPriority_twice admitted line p, tmrStart_twice admitted, tmrStop_twice admitted,
    fun host => picInit_completes.twice ⟨host, hs⟩ (fun _ => ⟨host, hs⟩) fun _ => rfl⟩

end Sys2Proof

/-! PROOFS. The statements of 43_ack_engine.md: how a dispatch is entered, what each of its phases does, that the line it
captured is the line it acknowledges, and whole dispatches through the default handler. -/

namespace Sys2Proof

namespace Machine

variable {s t : State}

/-! ### What can happen while a dispatch is in progress -/

/-- Only in `Idle` does an operation move the trap engine: a dispatch is started, or a trap presented. -/
theorem Move.engine (m : Move s t) (he : s.engine ≠ .idle) : t.engine = s.engine := by
  cases m with
  | dispatch hr => exact absurd hr.2.1 he
  | trap hi => exact absurd hi he
  | quiet | read | init | register | fault | line => rfl
  | tick => exact timerTick_engine s
  | write r v => exact memWrite_engine s r v
  | opRead => exact withOp_engine s _ _
  | opWrite r v => exact (memWrite_engine _ r v).trans (withOp_engine s _ _)

/-- While nobody may issue operations, none makes a transaction. -/
theorem Move.trace_of_noIssuer (m : Move s t) (hn : s.issuer = none) : t.trace = s.trace := by
  cases m with
  | quiet | init | register | dispatch | fault | line | trap => rfl
  | tick => exact timerTick_trace s
  | read _ hr | write _ _ hr =>
    obtain ⟨-, a, ha, -⟩ := hr
    cases hn.symm.trans ha
  | opRead _ ha | opWrite _ _ ha => cases hn.symm.trans ha

/-- An invoked handler's completion is the engine's only step in `Invoking`. -/
theorem EngineMove.of_invoking (m : EngineMove s t) {o : Origin} {line : Fin 32} {c : Callback}
    (he : s.engine = .invoking o line c) : t = engineHandlerDone o line s := by
  cases m with
  | handlerDone h => cases h.symm.trans he; rfl
  | decode h | picRead h | ack h | syscall h | trapDone h => cases h.symm.trans he

/-- The write of ACK is the engine's only step in `Acking`. -/
theorem EngineMove.of_acking (m : EngineMove s t) {o : Origin} {line : Fin 32} (he : s.engine = .acking o line) :
    t = engineAck o line s := by
  cases m with
  | ack h => cases h.symm.trans he; rfl
  | decode h | picRead h | handlerDone h | syscall h | trapDone h => cases h.symm.trans he

/-- While a handler runs the dispatch keeps its line, callback and origin, or the handler completes. -/
theorem step_of_invoking (h : step s = .next t) {o : Origin} {line : Fin 32} {c : Callback}
    (he : s.engine = .invoking o line c) :
    t.engine = .invoking o line c ∨ (t.engine = .acking o line ∧ t.trace = s.trace) := by
  obtain ⟨-, ins, rfl | m | m⟩ := step_next h
  · exact .inl he
  · exact .inl ((m.engine (by simp [he])).trans he)
  · rw [m.of_invoking he]
    exact .inr ⟨rfl, rfl⟩

/-- Before its one ACK write the dispatch keeps its line and origin, and no transaction is made. -/
theorem step_of_acking (h : step s = .next t) {o : Origin} {line : Fin 32} (he : s.engine = .acking o line) :
    (t.engine = .acking o line ∧ t.trace = s.trace) ∨ ∃ ins, t = engineAck o line { s with inputs := ins } := by
  obtain ⟨-, ins, rfl | m | m⟩ := step_next h
  · exact .inl ⟨he, rfl⟩
  · exact .inl ⟨(m.engine (by simp [he])).trans he, m.trace_of_noIssuer (by simp [State.issuer, he])⟩
  · exact .inr ⟨ins, m.of_acking he⟩

/-! ### The host's entry (R160) -/

theorem picDispatch_busy (h : Live s) (hi : s.initialised = true) (he : s.engine ≠ .idle) :
    exec .picDispatch s = .next { s with faults := [.nestedDispatch] } := by
  change execPicDispatch s = _
  rw [execPicDispatch, afterInit_initialised h hi]
  split
  · next e => exact absurd e he
  · rw [recordFault_clear h.1]

theorem picDispatch_hostReady (h : HostReady s) (hs : Sampled s) (hi : s.initialised = true) :
    exec .picDispatch s = .next { s with engine := .picRead .host } := by
  have ⟨hf, he, _⟩ := h
  change execPicDispatch s = _
  rw [execPicDispatch, afterInit_initialised (live_of_idle hf he) hi, he]
  exact oneStep_sampled (ready_of_hostReady h) hs rfl rfl

/-! ### The engine's steps, the inputs being sampled: the latch at their end sees no edge -/

/-- No fault is recorded, no stimulus comes from outside, and the latch has sampled the inputs. -/
structure Alone (s : State) : Prop where
  faults : s.faults = []
  inputs : s.inputs = []
  sampled : Sampled s

theorem Alone.step (h : Alone s) : Machine.step s = internalStep s :=
  step_of_nil h.faults h.inputs

theorem engineHandlerDone_sampled (hs : Sampled s) (o : Origin) (line : Fin 32) :
    engineHandlerDone o line s = { s with engine := .acking o line } :=
  latch_of_irqIn_eq hs rfl rfl

theorem Alone.step_decode_extIrq (h : Alone s) (he : s.engine = .decode) (hc : s.cause = 0x8000000F#32) :
    Machine.step s = .next { s with engine := .picRead .trap } := by
  rw [h.step, internalStep_decode he, engineDecode, hc]
  exact congrArg _ (latch_of_irqIn_eq h.sampled rfl rfl)

section
variable {o : Origin}

/-- Phase 1, on the line that a read of STATUS reports (R85, R161). -/
theorem Alone.step_picRead_holds (h : Alone s) (he : s.engine = .picRead o) (hl : s.params.legal = true) {c : Callback}
    (hc : s.slots[s.selLine] = .holds c) :
    Machine.step s = .next { s with
      engine := .invoking o s.selLine c
      trace := .invoke s.selLine c :: .read .status s.statusWord :: s.trace } := by
  have captured : lineOfStatus (readReg .status s) = s.selLine := lineOfStatus_statusWord hl
  rw [h.step, internalStep_picRead he]
  simp only [enginePicRead, captured, hc]
  exact congrArg _ (latch_of_irqIn_eq h.sampled rfl rfl)

theorem Alone.step_picRead_uninit (h : Alone s) (he : s.engine = .picRead o) (hl : s.params.legal = true)
    (hu : s.slots[s.selLine] = .uninit) :
    Machine.step s = .next { s with faults := [.uninitSlot], trace := .read .status s.statusWord :: s.trace } := by
  have captured : lineOfStatus (readReg .status s) = s.selLine := lineOfStatus_statusWord hl
  rw [h.step, internalStep_picRead he]
  simp only [enginePicRead, captured, hu]
  exact congrArg _ (recordFault_clear (s := memRead .status s) h.faults)

variable {line : Fin 32}

theorem Alone.step_defaultHandler (h : Alone s) (he : s.engine = .invoking o line .defaultHandler) :
    Machine.step s = .next { s with engine := .acking o line } := by
  rw [h.step, internalStep_default he, engineHandlerDone_sampled h.sampled]

theorem Alone.step_registered_waits (h : Alone s) {id : HandlerId} (he : s.engine = .invoking o line (.registered id))
    (hn : s.handlerOp = none) : Machine.step s = .next s := by
  rw [h.step, internalStep_registered he, hn, finishOp]

/-- A registered handler's completion, no operation of it being in progress (R164). -/
theorem step_handlerDone_registered (hf : s.faults = []) (hs : Sampled s) {id : HandlerId}
    (he : s.engine = .invoking o line (.registered id)) (hn : s.handlerOp = none) {rest : List Stimulus}
    (hin : s.inputs = .handlerDone :: rest) :
    step s = .next { s with engine := .acking o line, inputs := rest } := by
  have notPending : ¬ s.internalPending = true := by simp [State.internalPending, he, hn]
  rw [step_of_handlerDone hf hin, completion, if_neg notPending, he]
  exact congrArg _ (engineHandlerDone_sampled (s := { s with inputs := rest }) hs o line)

/-- Phase 3 of a trap's dispatch (R165, R224). -/
theorem Alone.step_acking_trap (h : Alone s) (he : s.engine = .acking .trap line) :
    Machine.step s = .next { s with
      engine := .returning, resumePc := s.epc, pending := s.pending &&& ~~~(1#32 <<< line.val)
      trace := .write .ack (1#32 <<< line.val) :: s.trace } := by
  rw [h.step, internalStep_acking he]
  exact congrArg _ (latch_of_irqIn_eq h.sampled rfl rfl)

/-- Phase 3 of the host's dispatch (R165). -/
theorem Alone.step_acking_host (h : Alone s) (he : s.engine = .acking .host line) :
    Machine.step s = .next { s with
      engine := .idle, pending := s.pending &&& ~~~(1#32 <<< line.val)
      trace := .write .ack (1#32 <<< line.val) :: s.trace } := by
  rw [h.step, internalStep_acking he]
  exact congrArg _ (latch_of_irqIn_eq h.sampled rfl rfl)

end

theorem Alone.step_returning (h : Alone s) (he : s.engine = .returning) :
    Machine.step s = .next { s with engine := .idle, trace := .trapReturn s.resumePc s.snap :: s.trace } := by
  rw [h.step, internalStep_returning he]
  exact congrArg _ (latch_of_irqIn_eq h.sampled rfl rfl)

/-! ### A dispatch through the default handler (R167) -/

/-- The block once the default handler has been invoked for the selected line, which is to be acknowledged. -/
def defaultServed (o : Origin) (s : State) : State :=
  { s with
    engine := .acking o s.selLine
    trace := .invoke s.selLine .defaultHandler :: .read .status s.statusWord :: s.trace }

theorem Alone.defaultServed (h : Alone s) (o : Origin) : Alone (defaultServed o s) :=
  { h with }

/-- Phases 1 and 2 with the default handler. -/
theorem Alone.run_defaultHandler (h : Alone s) {o : Origin} (he : s.engine = .picRead o) (hl : s.params.legal = true)
    (hc : s.slots[s.selLine] = .holds .defaultHandler) (k : Nat) :
    Host.Core.run Sys2Proof.core (k + 2) s = Host.Core.run Sys2Proof.core k (Machine.defaultServed o s) := by
  have invoking : Alone { s with
    engine := .invoking o s.selLine .defaultHandler
    trace := .invoke s.selLine .defaultHandler :: .read .status s.statusWord :: s.trace } := { h with }
  rw [run_next (h.step_picRead_holds he hl hc), run_next (invoking.step_defaultHandler rfl)]
  rfl

/-- Phase 3 of a trap's dispatch, and the return to `epc` (R224, R227). -/
theorem Alone.run_acking_trap (h : Alone s) {line : Fin 32} (he : s.engine = .acking .trap line) :
    Host.Core.run Sys2Proof.core 2 s = .next { s with
      engine := .idle, resumePc := s.epc, pending := s.pending &&& ~~~(1#32 <<< line.val)
      trace := .trapReturn s.epc s.snap :: .write .ack (1#32 <<< line.val) :: s.trace } := by
  have returning : Alone { s with
    engine := .returning, resumePc := s.epc, pending := s.pending &&& ~~~(1#32 <<< line.val)
    trace := .write .ack (1#32 <<< line.val) :: s.trace } := { h with }
  rw [run_next (h.step_acking_trap he), run_next (returning.step_returning rfl)]
  rfl

end Machine

open Machine

/-- Settles O40: in `Invoking` and `Acking` only the engine moves itself on, with the line and origin it holds. -/
theorem capturedLineIsAcknowledged : Obligations.CapturedLineIsAcknowledged := by
  intro s t h
  refine ⟨fun _ _ _ => step_of_invoking h, fun o line he => ?_⟩
  obtain kept | ⟨ins, rfl⟩ := step_of_acking h he
  · exact .inl kept
  · cases o <;> exact .inr ⟨rfl, rfl⟩

/-- Settles O36: the guards are passed in the order of R141 and R160; the decoder's entry asks for none. -/
theorem dispatchEntry : Obligations.DispatchEntry := by
  intro s hlive
  refine ⟨afterInit_fault hlive, picDispatch_busy hlive, fun hi he ho hs => ?_, fun he hc hs hin => ?_⟩
  · exact ⟨picDispatch_hostReady ⟨hlive.1, he, ho⟩ hs hi, rfl⟩
  · exact Alone.step_decode_extIrq ⟨hlive.1, hin, hs⟩ he hc

/-- Settles O37: the LINE field of the one STATUS read is the selected line, whose slot decides. -/
theorem dispatchReadsStatusOnce : Obligations.DispatchReadsStatusOnce := by
  intro s o hf hin he hl hs
  have alone : Alone s := ⟨hf, hin, hs⟩
  exact ⟨fun _ => alone.step_picRead_holds he hl, alone.step_picRead_uninit he hl⟩

/-- Settles O38: the default handler's completion is a step of the engine, a registered one's a stimulus. -/
theorem handlerRunsToCompletion : Obligations.HandlerRunsToCompletion := by
  intro s o line hf hs
  refine ⟨fun he hin => Alone.step_defaultHandler ⟨hf, hin, hs⟩ he, fun id rest he hn => ⟨fun hin => ?_, ?_⟩⟩
  · exact Alone.step_registered_waits ⟨hf, hin, hs⟩ he hn
  · exact step_handlerDone_registered hf hs he hn

/-- Settles O39: the ACK write of the captured line's mask, and the origin's way on. -/
theorem acknowledgeClearsCapturedLine : Obligations.AcknowledgeClearsCapturedLine := by
  intro s line hf hin hs
  have alone : Alone s := ⟨hf, hin, hs⟩
  exact ⟨alone.step_acking_trap, alone.step_acking_host⟩

/-- Settles O41: decode, the two phases of the default handler, the acknowledgement and the return, one step each. -/
theorem defaultDispatchRunsOnce : Obligations.DefaultDispatchRunsOnce := by
  intro s hf hin he hc hl hs hslot
  have alone : Alone s := ⟨hf, hin, hs⟩
  have entered : Alone { s with engine := .picRead .trap } := { alone with }
  rw [run_next (alone.step_decode_extIrq he hc), entered.run_defaultHandler rfl hl hslot,
    (entered.defaultServed .trap).run_acking_trap rfl]
  rfl

/-- Settles O42: from the host's entry, the two phases of the default handler and the acknowledgement lead back to Idle. -/
theorem hostDispatchRunsOnce : Obligations.HostDispatchRunsOnce := by
  intro s hr hi hin hl hs hslot
  have ⟨hf, he, _⟩ := hr
  have entered : Alone { s with engine := .picRead .host } := ⟨hf, hin, hs⟩
  refine ⟨_, picDispatch_hostReady hr hs hi, ?_⟩
  rw [entered.run_defaultHandler rfl hl hslot, run_next ((entered.defaultServed .host).step_acking_host rfl), ← he]
  rfl

end Sys2Proof

/-! PROOFS. The statements of 44_timer.md: what moves the timer's output, which is line 0; how the timer counts; and
what its registers and driver operations read and write. -/

namespace Sys2Proof

namespace Machine

variable {s t : State}

/-! ### The timer's output (R185) -/

/-- The output: IE, and a source both pending and enabled. -/
theorem timerOut_iff : s.timerOut = true ↔
    s.tCtrl.getLsbD 1 = true ∧ ((s.tIpend.getLsbD 0 = true ∧ s.tIen.getLsbD 0 = true) ∨
      (s.tIpend.getLsbD 1 = true ∧ s.tIen.getLsbD 1 = true)) := by
  have source (x : BitVec 2) : (x != 0#2) = true ↔ x.getLsbD 0 = true ∨ x.getLsbD 1 = true := by
    revert x; decide
  simp only [State.timerOut, State.timerIe, Bool.and_eq_true, source, BitVec.getLsbD_and]

/-- IE and the enables are as they were, and no pending source is lost. -/
structure KeepsRequest (s t : State) : Prop where
  ie : t.tCtrl.getLsbD 1 = s.tCtrl.getLsbD 1
  ien : t.tIen = s.tIen
  ipend : ∀ k, s.tIpend.getLsbD k = true → t.tIpend.getLsbD k = true

theorem KeepsRequest.trans {u : State} (h : KeepsRequest s t) (h' : KeepsRequest t u) : KeepsRequest s u :=
  ⟨h'.ie.trans h.ie, h'.ien.trans h.ien, fun k hk => h'.ipend k (h.ipend k hk)⟩

theorem KeepsRequest.timerOut (h : KeepsRequest s t) (hs : s.timerOut = true) : t.timerOut = true := by
  obtain ⟨ie, source⟩ := timerOut_iff.mp hs
  refine timerOut_iff.mpr ⟨h.ie.trans ie, ?_⟩
  rw [h.ien]
  exact source.imp (And.imp_left (h.ipend 0)) (And.imp_left (h.ipend 1))

/-- A step that leaves T_CTRL, T_IEN and T_IPEND alone. -/
theorem keepsRequest_of_eq (hc : t.tCtrl = s.tCtrl) (he : t.tIen = s.tIen) (hp : t.tIpend = s.tIpend) :
    KeepsRequest s t :=
  ⟨by rw [hc], he, fun k hk => by rw [hp, hk]⟩

theorem getLsbD_or_of_left {w : Nat} {x : BitVec w} (y : BitVec w) (k : Nat) (h : x.getLsbD k = true) :
    (x ||| y).getLsbD k = true := by
  rw [BitVec.getLsbD_or, h, Bool.true_or]

theorem keepsRequest_timerMatch (s : State) : KeepsRequest s (timerMatch s) := by
  rw [timerMatch_or]
  exact ⟨rfl, rfl, getLsbD_or_of_left _⟩

/-- An overflow clears START at most, and sets the overflow source (R182). -/
theorem keepsRequest_timerOverflow (s : State) : KeepsRequest s (timerOverflow s) := by
  unfold timerOverflow
  split
  · exact ⟨rfl, rfl, getLsbD_or_of_left _⟩
  · exact ⟨by simp, rfl, getLsbD_or_of_left _⟩

theorem keepsRequest_countStep (s : State) : KeepsRequest s (countStep s) := by
  unfold countStep
  refine KeepsRequest.trans ?_ (keepsRequest_timerMatch _)
  split
  · exact keepsRequest_timerOverflow s
  · exact keepsRequest_of_eq rfl rfl rfl

theorem keepsRequest_timerTick (s : State) : KeepsRequest s (timerTick s) := by
  have restarted : KeepsRequest s { s with pscCnt := 0 } := keepsRequest_of_eq rfl rfl rfl
  unfold timerTick
  split
  · split
    · split
      · exact restarted.trans (keepsRequest_countStep _)
      · exact keepsRequest_of_eq rfl rfl rfl
    · exact keepsRequest_countStep s
  · exact keepsRequest_of_eq rfl rfl rfl

/-- The step's transaction is a write to IACK, IEN or CTRL. -/
def WritesGate (s t : State) : Prop :=
  ∃ v, t.trace = .write .tIack v :: s.trace ∨ t.trace = .write .tIen v :: s.trace ∨
    t.trace = .write .tCtrl v :: s.trace

theorem keepsRequest_or_writesGate_memWrite (r : BusReg) (v : Word) (s : State) :
    KeepsRequest s (memWrite r v s) ∨ WritesGate s (memWrite r v s) := by
  cases r with
  | tIack => exact .inr ⟨v, .inl rfl⟩
  | tIen => exact .inr ⟨v, .inr (.inl rfl)⟩
  | tCtrl => exact .inr ⟨v, .inr (.inr rfl)⟩
  | _ => exact .inl (keepsRequest_of_eq rfl rfl rfl)

theorem keepsRequest_withOp (a : Agent) (o : Option InFlight) (s : State) : KeepsRequest s (s.withOp a o) :=
  keepsRequest_of_eq (withOp_tCtrl s a o) (withOp_tIen s a o) (withOp_tIpend s a o)

theorem Move.keepsRequest_or_writesGate (m : Move s t) : KeepsRequest s t ∨ WritesGate s t := by
  cases m with
  | quiet | read | init | register | dispatch | fault | line | trap => exact .inl (keepsRequest_of_eq rfl rfl rfl)
  | tick => exact .inl { keepsRequest_timerTick s with }
  | @opRead a op r => exact .inl { keepsRequest_withOp a (some ⟨op, readReg r s⟩) s with }
  | write r v => exact (keepsRequest_or_writesGate_memWrite r v s).imp (fun h => { h with }) id
  | @opWrite a _ _ r v =>
    refine (keepsRequest_or_writesGate_memWrite r v (s.withOp a none)).imp (fun h => ?_) fun h => ?_
    · exact { (keepsRequest_withOp a none s).trans h with }
    · simpa only [WritesGate, latch_trace, withOp_trace] using h

/-- The trap engine's one write is the acknowledgement, which does not touch the timer (R165). -/
theorem EngineMove.keepsRequest (m : EngineMove s t) : KeepsRequest s t := by
  cases m with
  | decode | handlerDone | syscall | trapDone => exact keepsRequest_of_eq rfl rfl rfl
  | @picRead o =>
    obtain ⟨-, e⟩ | ⟨line, c, -, -, e⟩ := enginePicRead_cases o s
    · rw [e]; exact keepsRequest_of_eq rfl rfl rfl
    · rw [e]; exact keepsRequest_of_eq rfl rfl rfl
  | @ack o => cases o <;> exact keepsRequest_of_eq rfl rfl rfl

theorem step_keepsRequest_or_writesGate (h : step s = .next t) : KeepsRequest s t ∨ WritesGate s t := by
  obtain ⟨-, ins, rfl | m | m⟩ := step_next h
  · exact .inl (keepsRequest_of_eq rfl rfl rfl)
  · exact m.keepsRequest_or_writesGate.imp_left fun h => { h with }
  · exact .inl { m.keepsRequest with }

/-! ### Counting (R180 to R184) -/

theorem execEvTick_unfaulted (hf : s.faults = []) : exec .evTick s = .next (latch (timerTick s)) :=
  unfaulted_clear hf

/-- A tick from a sampled state: the latch sees the timer's output move. -/
theorem execEvTick_sampled (hf : s.faults = []) (hs : Sampled s) :
    exec .evTick s = .next (afterTimerWrite s (timerTick s)) := by
  rw [execEvTick_unfaulted hf, latch_timer hs (timerTick_irqPrev s) (timerTick_irqLines s)]

/-- Below the divisor a tick only advances `psc_cnt`. -/
theorem iterate_timerTick (hs : s.start = true) (hp : s.pse = true) (h0 : s.pscCnt = 0) {k : Nat}
    (hk : k < s.prescale) : timerTick^[k] s = { s with pscCnt := k } := by
  induction k with
  | zero => rw [Function.iterate_zero_apply, ← h0]
  | succ k ih =>
    rw [Function.iterate_succ_apply', ih (Nat.lt_of_succ_lt hk)]
    exact timerTick_prescaled (s := { s with pscCnt := k }) hs hp hk.ne

/-- The tick that reaches the divisor counts. -/
theorem iterate_timerTick_prescale (hs : s.start = true) (hp : s.pse = true) (h0 : s.pscCnt = 0)
    (hd : 1 ≤ s.prescale) : timerTick^[s.prescale] s = countStep s := by
  obtain ⟨d, hd⟩ := Nat.exists_eq_add_of_le' hd
  have restarted : { s with pscCnt := if s.pse then 0 else d } = s := by rw [if_pos hp, ← h0]
  rw [hd, Function.iterate_succ_apply', iterate_timerTick hs hp h0 (by omega),
    timerTick_effective (s := { s with pscCnt := d }) hs fun _ => hd.symm]
  exact congrArg countStep restarted

theorem timerMatch_tIpend_zero (s : State) : (timerMatch s).tIpend.getLsbD 0 = s.tIpend.getLsbD 0 := by
  unfold timerMatch
  split
  · simp
  · rfl

theorem timerOverflow_tIpend_zero (s : State) : (timerOverflow s).tIpend.getLsbD 0 = true := by
  unfold timerOverflow
  split <;> simp

/-- The overflow of a count raises its source (R182). -/
theorem countStep_tIpend_zero (h : s.tCount = 0xFFFFFFFF#32) : (countStep s).tIpend.getLsbD 0 = true := by
  rw [countStep, if_pos h, timerMatch_tIpend_zero, timerOverflow_tIpend_zero]

theorem countStep_reload_tCount (h : s.tCount = 0xFFFFFFFF#32) (ha : s.are = true) :
    (countStep s).tCount = s.tReload ∧ (countStep s).tCtrl = s.tCtrl := by
  rw [countStep_reload h ha, timerMatch_or]
  exact ⟨rfl, rfl⟩

theorem countStep_stop_tCount (h : s.tCount = 0xFFFFFFFF#32) (ha : s.are = false) :
    (countStep s).tCount = 0#32 ∧ (countStep s).tCtrl = s.tCtrl &&& 0b1111110#7 := by
  rw [countStep_stop h ha, timerMatch_or]
  exact ⟨rfl, rfl⟩

/-- From `s` the timer has counted up to `c` without an overflow. -/
structure CountedTo (s : State) (c : Word) (t : State) : Prop where
  tCount : t.tCount = c
  tCtrl : t.tCtrl = s.tCtrl
  tReload : t.tReload = s.tReload
  overflow : t.tIpend.getLsbD 0 = s.tIpend.getLsbD 0

theorem countedTo_countStep {c : Word} (h : CountedTo s c t) (hc : c ≠ 0xFFFFFFFF#32) :
    CountedTo s (c + 1#32) (countStep t) := by
  rw [countStep_plain (h.tCount.trans_ne hc), timerMatch_eq]
  exact ⟨congrArg (· + 1#32) h.tCount, h.tCtrl, h.tReload, (timerMatch_tIpend_zero _).trans h.overflow⟩

/-- Fewer than `n` counts from `-n` reach no overflow. -/
theorem countedTo_iterate {n : Nat} (hn : n ≤ 2 ^ 32) (hc : s.tCount = BitVec.ofNat 32 (2 ^ 32 - n)) {k : Nat}
    (hk : k < n) : CountedTo s (BitVec.ofNat 32 (2 ^ 32 - n + k)) (countStep^[k] s) := by
  induction k with
  | zero => exact ⟨hc, rfl, rfl, rfl⟩
  | succ k ih =>
    have below : BitVec.ofNat 32 (2 ^ 32 - n + k) ≠ 0xFFFFFFFF#32 := by
      rw [ne_eq, ← BitVec.toNat_inj, BitVec.toNat_ofNat, BitVec.toNat_ofNat]
      omega
    rw [Function.iterate_succ_apply', ← Nat.add_assoc, BitVec.ofNat_add]
    exact countedTo_countStep (ih (Nat.lt_of_succ_lt hk)) below

/-- The `n`-th count from `-n` is the overflow. -/
theorem iterate_countStep_overflow {n : Nat} (ha : s.are = true) (h1 : 1 ≤ n) (hn : n ≤ 2 ^ 32)
    (hc : s.tCount = BitVec.ofNat 32 (2 ^ 32 - n)) :
    (countStep^[n] s).tCount = s.tReload ∧ (countStep^[n] s).tIpend.getLsbD 0 = true := by
  obtain ⟨m, rfl⟩ := Nat.exists_eq_add_of_le' h1
  have last := countedTo_iterate hn hc m.lt_succ_self
  rw [show 2 ^ 32 - (m + 1) + m = 0xFFFFFFFF by omega] at last
  have are : (countStep^[m] s).are = true := by rw [State.are, last.tCtrl]; exact ha
  rw [Function.iterate_succ_apply']
  exact ⟨(countStep_reload_tCount last.tCount are).1.trans last.tReload, countStep_tIpend_zero last.tCount⟩

/-! ### T_CTRL and its setters (R188, R196 to R200) -/

theorem memWrite_tCtrl_eq (v : Word) (s : State) : memWrite .tCtrl v s = withCtrlWritten s v := by
  have pse : (v.setWidth 7).getLsbD 2 = v.getLsbD 2 := by simp
  have psc : (v.setWidth 7).extractLsb' 4 3 = v.extractLsb' 4 3 := by
    apply BitVec.eq_of_getLsbD_eq
    intro k hk
    simp only [BitVec.getLsbD_extractLsb', BitVec.getLsbD_setWidth, decide_eq_true (show 4 + k < 7 by omega),
      Bool.true_and]
  simp only [memWrite, emit, writeReg, writeCtrl, withCtrlWritten, State.pse, State.psc, pse, psc]

/-- A read-modify-write of T_CTRL is one of its setters. -/
theorem setterOfCtrl {op : Instr} {f : Word → Word} (h : ∀ s, exec op s = readModifyWrite op .tCtrl f s) :
    SetterOfCtrl op f := by
  intro s a hf ha hs
  refine ⟨fun hn => (h s).trans (readModifyWrite_read hf ha hs hn), fun c hn => ?_⟩
  rw [h, readModifyWrite_inProgress hf ha hn, memWrite_tCtrl_eq]
  exact congrArg _ (latch_timer hs (withOp_irqPrev s a none) (withOp_irqLines s a none))

/-- A setter run to its end stores `f` of the control word. -/
theorem completeOp_setterOfCtrl {op : Instr} {f : Word → Word} (h : SetterOfCtrl op f)
    (h2 : twoTransactions op = true) (hr : Ready s) (hs : Sampled s) :
    ∃ t, completeOp op s = .next t ∧ t.tCtrl = (f (s.tCtrl.setWidth 32)).setWidth 7 := by
  obtain ⟨hf, a, ha, hn⟩ := hr
  have read := (h s a hf ha hs).1 hn
  have twoSteps : completeOp op s = exec op (betweenSteps op .tCtrl a s) := by
    rw [completeOp, read]
    exact if_pos h2
  rw [twoSteps]
  cases a with
  | host => exact ⟨_, (h (betweenSteps op .tCtrl .host s) .host hf ha hs).2 _ rfl, rfl⟩
  | handler => exact ⟨_, (h (betweenSteps op .tCtrl .handler s) .handler hf ha hs).2 _ rfl, rfl⟩

/-- A setter run to its end leaves in each bit what `own` asks of it, or what it held. -/
theorem completeOp_ownBits {op : Instr} {f : Word → Word} {own : Nat → Option Bool} (h : SetterOfCtrl op f)
    (h2 : twoTransactions op = true) (hr : Ready s) (hs : Sampled s)
    (hown : ∀ k < 7, (f (s.tCtrl.setWidth 32)).getLsbD k = (own k).getD ((s.tCtrl.setWidth 32).getLsbD k)) :
    ∃ t, completeOp op s = .next t ∧ ∀ k, k < 7 → t.tCtrl.getLsbD k = (own k).getD (s.tCtrl.getLsbD k) := by
  obtain ⟨t, run, stored⟩ := completeOp_setterOfCtrl h h2 hr hs
  refine ⟨t, run, fun k hk => ?_⟩
  have widened : (s.tCtrl.setWidth 32).getLsbD k = s.tCtrl.getLsbD k := by
    rw [BitVec.getLsbD_setWidth, decide_eq_true (show k < 32 by omega), Bool.true_and]
  rw [stored, BitVec.getLsbD_setWidth, decide_eq_true hk, Bool.true_and, hown k hk, widened]

/-- Bit `j` set, and every other bit kept. -/
theorem setBit_getLsbD (c : Word) {j : Nat} (hj : j < 7) (k : Nat) :
    (c ||| BitVec.twoPow 32 j).getLsbD k = (if k = j then some true else none).getD (c.getLsbD k) := by
  rw [BitVec.getLsbD_or, BitVec.getLsbD_twoPow, decide_eq_true (show j < 32 by omega)]
  by_cases e : k = j
  · simp [e]
  · simp [e, Ne.symm e]

/-- Bit `j` cleared, and every other bit kept. -/
theorem clearBit_getLsbD (c : Word) {j k : Nat} (hj : j < 7) (hk : k < 7) :
    (c &&& ~~~BitVec.twoPow 32 j).getLsbD k = (if k = j then some false else none).getD (c.getLsbD k) := by
  rw [BitVec.getLsbD_and, BitVec.getLsbD_not, BitVec.getLsbD_twoPow, decide_eq_true (show j < 32 by omega),
    decide_eq_true (show k < 32 by omega)]
  by_cases e : k = j
  · simp [e]
  · simp [e, Ne.symm e]

/-- The prescaler field replaced by the low three bits of `value` (R90). -/
theorem withPrescaler_getLsbD (value c : Word) {k : Nat} (hk : k < 7) :
    (withPrescaler value c).getLsbD k =
      (if 4 ≤ k then some (value.getLsbD (k - 4)) else none).getD (c.getLsbD k) := by
  have field : ∀ k < 7, pscMask.getLsbD k = decide (4 ≤ k) ∧ (0x7#32).getLsbD (k - 4) = true := by decide
  obtain ⟨psc, low⟩ := field k hk
  rw [withPrescaler, BitVec.getLsbD_or, BitVec.getLsbD_and, BitVec.getLsbD_not, BitVec.getLsbD_shiftLeft,
    BitVec.getLsbD_and, psc, low, decide_eq_true (show k < 32 by omega)]
  by_cases e : 4 ≤ k
  · simp [e]
  · simp [e, Nat.lt_of_not_le e]

end Machine

open Machine

/-- Settles O53: no count loses a pending source, and of the register writes only those of IACK, IEN and CTRL can. -/
theorem timerOutputGates : Obligations.TimerOutputGates := by
  intro s
  have line0 (u : State) : u.irqIn.getLsbD 0 = u.timerOut := irqIn_getLsbD u 0
  refine ⟨by rw [line0, timerOut_iff], fun t h hs ht => ?_⟩
  rw [line0] at hs ht
  obtain keeps | writes := step_keepsRequest_or_writesGate h
  · cases (keeps.timerOut hs).symm.trans ht
  · exact writes

/-- Settles O43: a tick is nothing, an advance of the prescaler, or a count in one of its three cases. -/
theorem tickCounts : Obligations.TickCounts := by
  intro s hf hs psc effective matched
  have counts (h : effective) : exec .evTick s = .next (afterTimerWrite s (countStep { s with pscCnt := psc })) := by
    rw [execEvTick_sampled hf hs, timerTick_effective h.1 h.2]
    rfl
  refine ⟨rfl, rfl, fun h => ?_, fun h hp hc => ?_, fun h hc => ?_, fun h hc ha => ?_, fun h hc ha => ?_⟩
  · rw [execEvTick_unfaulted hf, timerTick_stopped h, latch_of_sampled hs]
  · rw [execEvTick_unfaulted hf, timerTick_prescaled h hp hc]
    exact congrArg _ (latch_of_irqIn_eq hs rfl rfl)
  · rw [counts h, countStep_plain (s := { s with pscCnt := psc }) hc, timerMatch_or]
  · rw [counts h, countStep_reload (s := { s with pscCnt := psc }) hc ha, timerMatch_or]
  · rw [counts h, countStep_stop (s := { s with pscCnt := psc }) hc ha, timerMatch_or]

/-- Settles O44, by induction on the ticks below the divisor; the last one counts. -/
theorem prescalerDividesTicks : Obligations.PrescalerDividesTicks :=
  fun _ hs hp h0 hd => ⟨fun _ => iterate_timerTick hs hp h0, iterate_timerTick_prescale hs hp h0 hd⟩

/-- Settles O45: from `-N` no count overflows before the `N`-th. -/
theorem autoreloadPeriod : Obligations.AutoreloadPeriod := by
  refine ⟨fun s h => ⟨countStep_tIpend_zero h, countStep_reload_tCount h, countStep_stop_tCount h⟩,
    fun s n ha h1 hn hc _ => ⟨fun k hk => ?_, iterate_countStep_overflow ha h1 hn hc⟩⟩
  have counted := countedTo_iterate hn hc hk
  exact ⟨counted.tCount, counted.overflow⟩

/-- Settles O46: each operation is the read transaction of its register, which the latch adds nothing to. -/
theorem timerReads : Obligations.TimerReads := by
  intro s h hs
  have reads (r : BusReg) : busRead r s = .next (memRead r s) := busRead_ready h hs
  exact ⟨reads .tCtrl, reads .tCount, reads .tReload, reads .tMatch, reads .tIen, reads .tIpend, reads .tIack,
    reads .tIpend⟩

/-- Settles O47: the timer's output does not depend on these registers, so the latch sees no edge. -/
theorem timerValueWrites : Obligations.TimerValueWrites := by
  intro s v h hs
  have writes (r : BusReg) (still : (writeReg r v s).irqIn = s.irqIn) : busWrite r v s = .next (memWrite r v s) :=
    busWrite_ready h hs still
  exact ⟨writes .tCount rfl, writes .tCount rfl, writes .tReload rfl, writes .tReload rfl, writes .tMatch rfl,
    writes .tMatch rfl, writes .tIpend rfl⟩

/-- Settles O48: each operation is the write transaction of its register, which the latch sees on line 0. -/
theorem timerInterruptWrites : Obligations.TimerInterruptWrites := by
  intro s v h hs
  have writes (r : BusReg) : busWrite r v s = .next (afterTimerWrite s (memWrite r v s)) := busWrite_ready_timer h hs
  exact ⟨writes .tIen, writes .tIen, writes .tIack, writes .tIack⟩

/-- Settles O49: the write transaction of T_CTRL, which the latch sees on line 0. -/
theorem timerControlWrite : Obligations.TimerControlWrite := by
  intro s v h hs
  rw [← memWrite_tCtrl_eq]
  exact busWrite_ready_timer h hs

/-- Settles O50: each operation is the read-modify-write of T_CTRL with the mask of its bit. -/
theorem timerBitSetters : Obligations.TimerBitSetters :=
  ⟨setterOfCtrl fun _ => rfl, setterOfCtrl fun _ => rfl, setterOfCtrl fun _ => rfl, setterOfCtrl fun _ => rfl,
    setterOfCtrl fun _ => rfl, setterOfCtrl fun _ => rfl, setterOfCtrl fun _ => rfl, setterOfCtrl fun _ => rfl⟩

/-- Settles O51: the read-modify-write of T_CTRL with the prescaler field replaced. -/
theorem setPrescalerWritesField : Obligations.SetPrescalerWritesField :=
  fun _ => setterOfCtrl fun _ => rfl

/-- Settles O52: what each setter writes differs from the word it read in the setter's own bits only. -/
theorem controlSettersKeepOtherBits : Obligations.ControlSettersKeepOtherBits := by
  intro s value hr hs only bit
  have sets {op : Instr} {j : Nat} (h : SetterOfCtrl op fun c => c ||| BitVec.twoPow 32 j)
      (h2 : twoTransactions op = true) (hj : j < 7) : only op (bit j true) :=
    completeOp_ownBits h h2 hr hs fun k _ => setBit_getLsbD _ hj k
  have clears {op : Instr} {j : Nat} (h : SetterOfCtrl op fun c => c &&& ~~~BitVec.twoPow 32 j)
      (h2 : twoTransactions op = true) (hj : j < 7) : only op (bit j false) :=
    completeOp_ownBits h h2 hr hs fun _ => clearBit_getLsbD _ hj
  obtain ⟨enableAre, disableAre, enablePse, disablePse, enableIe, disableIe, start, stop⟩ := timerBitSetters
  exact ⟨completeOp_ownBits (setPrescalerWritesField value) rfl hr hs fun _ => withPrescaler_getLsbD value _,
    sets (j := 3) enableAre rfl (by decide), clears (j := 3) disableAre rfl (by decide),
    sets (j := 2) enablePse rfl (by decide), clears (j := 2) disablePse rfl (by decide),
    sets (j := 1) enableIe rfl (by decide), clears (j := 1) disableIe rfl (by decide),
    sets (j := 0) start rfl (by decide), clears (j := 0) stop rfl (by decide)⟩

end Sys2Proof

/-! PROOFS. The statements of 45_trap_decoder.md: how a trap is presented, decoded, served as a system call and returned
from, and what no step changes of the trap in service and of the host's suspended operation. -/

namespace Sys2Proof

namespace Machine

variable {s t : State}

/-! ### What a step puts out on the trap port (R227) -/

/-- No operation puts out a resume pc: it makes one transaction or none. -/
theorem Move.trace_ne_trapReturn (m : Move s t) (pc : Word) (regs : Snapshot) :
    t.trace ≠ .trapReturn pc regs :: s.trace := by
  cases m with
  | quiet | init | register | dispatch | fault | line | trap => exact (List.cons_ne_self _ _).symm
  | tick => simp
  | read | write | opRead | opWrite => simp

/-- The engine's return is its one step that puts out a resume pc. -/
theorem EngineMove.of_trapReturn (m : EngineMove s t) {pc : Word} {regs : Snapshot}
    (ht : t.trace = .trapReturn pc regs :: s.trace) : s.engine = .returning ∧ pc = s.resumePc := by
  cases m with
  | trapDone he => cases ht; exact ⟨he, rfl⟩
  | decode | handlerDone => exact absurd ht (List.cons_ne_self _ _).symm
  | @picRead o =>
    obtain ⟨-, e⟩ | ⟨line, c, -, -, e⟩ := enginePicRead_cases o s
    · rw [e] at ht; cases ht
    · rw [e] at ht; cases ht
  | @ack o => cases o <;> cases ht
  | syscall => cases ht

theorem step_of_trapReturn (h : step s = .next t) {pc : Word} {regs : Snapshot}
    (ht : t.trace = .trapReturn pc regs :: s.trace) : s.engine = .returning ∧ pc = s.resumePc := by
  obtain ⟨-, ins, rfl | m | m⟩ := step_next h
  · exact absurd ht (List.cons_ne_self _ _).symm
  · exact absurd ht (m.trace_ne_trapReturn pc regs)
  · exact m.of_trapReturn ht

/-! ### What a step changes of the trap in service, and of the host's suspended operation -/

/-- The trap descriptor (R23, R24) is as it was. -/
structure KeepsDescriptor (s t : State) : Prop where
  cause : t.cause = s.cause
  epc : t.epc = s.epc
  snap : t.snap = s.snap

/-- A trap is presented in `Idle` (R220). -/
def Presents (s t : State) : Prop :=
  s.engine = .idle ∧ t.engine = .decode

/-- The system call writes its answer into the return slot alone (R225). -/
structure AnswersCall (s t : State) : Prop where
  called : s.engine = .syscall
  answered : t.engine = .returning
  cause : t.cause = s.cause
  epc : t.epc = s.epc
  snap : ∃ r, t.snap = s.snap.set s.params.retReg r

theorem Move.keepsDescriptor_or_presents (m : Move s t) : KeepsDescriptor s t ∨ Presents s t := by
  cases m with
  | trap he => exact .inr ⟨he, rfl⟩
  | quiet | read | init | register | dispatch | fault | line => exact .inl ⟨rfl, rfl, rfl⟩
  | tick => exact .inl ⟨timerTick_cause s, timerTick_epc s, timerTick_snap s⟩
  | write r v => exact .inl ⟨memWrite_cause s r v, memWrite_epc s r v, memWrite_snap s r v⟩
  | opRead => exact .inl ⟨withOp_cause s _ _, withOp_epc s _ _, withOp_snap s _ _⟩
  | opWrite => exact .inl ⟨by simp, by simp, by simp⟩

theorem EngineMove.keepsDescriptor_or_answersCall (m : EngineMove s t) : KeepsDescriptor s t ∨ AnswersCall s t := by
  cases m with
  | syscall he r => exact .inr ⟨he, rfl, rfl, rfl, r, rfl⟩
  | decode | handlerDone | trapDone => exact .inl ⟨rfl, rfl, rfl⟩
  | @picRead o =>
    obtain ⟨-, e⟩ | ⟨line, c, -, -, e⟩ := enginePicRead_cases o s
    · rw [e]; exact .inl ⟨rfl, rfl, rfl⟩
    · rw [e]; exact .inl ⟨rfl, rfl, rfl⟩
  | @ack o => cases o <;> exact .inl ⟨rfl, rfl, rfl⟩

theorem step_descriptor (h : step s = .next t) : KeepsDescriptor s t ∨ Presents s t ∨ AnswersCall s t := by
  obtain ⟨-, ins, rfl | m | m⟩ := step_next h
  · exact .inl ⟨rfl, rfl, rfl⟩
  · exact m.keepsDescriptor_or_presents.imp (fun k => { k with }) .inl
  · exact m.keepsDescriptor_or_answersCall.imp (fun k => { k with }) fun k => .inr { k with }

/-- Outside `Idle` it is not the host that may issue. -/
theorem hostOp_withOp_of_issuer {a : Agent} (ha : s.issuer = some a) (he : s.engine ≠ .idle) (o : Option InFlight) :
    (s.withOp a o).hostOp = s.hostOp := by
  obtain ⟨-, hi⟩ | ⟨rfl, -⟩ := issuer_cases ha
  · exact absurd hi he
  · rfl

theorem Move.hostOp (m : Move s t) (he : s.engine ≠ .idle) : t.hostOp = s.hostOp := by
  cases m with
  | quiet | read | init | register | dispatch | fault | line | trap => rfl
  | tick => exact timerTick_hostOp s
  | write r v => exact memWrite_hostOp s r v
  | opRead _ ha => exact hostOp_withOp_of_issuer ha he _
  | opWrite r v ha => exact (memWrite_hostOp _ r v).trans (hostOp_withOp_of_issuer ha he none)

theorem EngineMove.hostOp (m : EngineMove s t) : t.hostOp = s.hostOp := by
  cases m with
  | decode | handlerDone | syscall | trapDone => rfl
  | @picRead o =>
    obtain ⟨-, e⟩ | ⟨line, c, -, -, e⟩ := enginePicRead_cases o s
    · rw [e]; rfl
    · rw [e]; rfl
  | @ack o => cases o <;> rfl

theorem step_hostOp (h : step s = .next t) (he : s.engine ≠ .idle) : t.hostOp = s.hostOp := by
  obtain ⟨-, ins, rfl | m | m⟩ := step_next h
  · rfl
  · exact m.hostOp he
  · exact m.hostOp

/-! ### The presentation of a trap (R220) -/

section
variable (cause epc : Word) (regs : Snapshot)

/-- The block with a trap's descriptor saved, about to decode it. -/
def trapPresented (s : State) : State :=
  { s with cause := cause, epc := epc, snap := regs, engine := .decode }

theorem presentTrap_sampled (hf : s.faults = []) (he : s.engine = .idle) (hs : Sampled s) :
    presentTrap cause epc regs s = .next (trapPresented cause epc regs s) := by
  rw [presentTrap_idle hf he]
  exact congrArg _ (latch_of_irqIn_eq hs rfl rfl)

theorem presentTrap_nested (hf : s.faults = []) (hc : s.context = .trap) :
    presentTrap cause epc regs s = .next { s with faults := [.nestedTrap] } := by
  rw [presentTrap, unhalted_live (live_of_trap hf hc), recordFault_clear hf]
  split
  · next he => simp [State.context, he] at hc
  · rfl

theorem presentTrap_halted (hf : s.faults = []) {r : HaltReason} (he : s.engine = .halted r) :
    presentTrap cause epc regs s = .refused .halted :=
  unhalted_halted hf he

end

/-- Each of the four classes is a presentation, with the cause word of its class (R81, R82). -/
theorem exec_of_mem_trapClasses {i : Instr} {epc : Word} {regs : Snapshot} {code : BitVec 31}
    (h : i ∈ [Instr.trapExtIrq epc regs, .trapEcallM epc regs, .trapHaltIrq code epc regs, .trapHaltExc code epc regs])
    (s : State) : ∃ cause, exec i s = presentTrap cause epc regs s := by
  simp only [List.mem_cons, List.not_mem_nil, or_false] at h
  obtain rfl | rfl | rfl | rfl := h <;> exact ⟨_, rfl⟩

/-! ### The decoder (R221 to R223) -/

theorem engineDecode_sampled (hs : Sampled s) : engineDecode s = { s with engine := decodeCause s.cause } :=
  latch_of_irqIn_eq hs rfl rfl

theorem Alone.step_decode (h : Alone s) (he : s.engine = .decode) :
    Machine.step s = .next { s with engine := decodeCause s.cause } := by
  rw [h.step, internalStep_decode he, engineDecode_sampled h.sampled]

theorem decodeCause_unknownInterrupt {c : Word} (h31 : c.getLsbD 31 = true) (hc : c ≠ 0x8000000F#32) :
    decodeCause c = .halted (.unknownInterrupt (c &&& 0x7FFFFFFF#32)) := by
  have code : c &&& 0x7FFFFFFF#32 ≠ 15#32 := fun e => hc (cause_eq_extIrqCause h31 e)
  simp only [decodeCause, h31, if_true, code, if_false]

theorem decodeCause_ecallM : decodeCause ecallMCause = .syscall := rfl

theorem decodeCause_unknownException {c : Word} (h31 : c.getLsbD 31 = false) (hc : c ≠ 11#32) :
    decodeCause c = .halted (.unknownException c) := by
  simp only [decodeCause, h31, Bool.false_eq_true, hc, if_false]

/-! ### The system call (R225, R226) -/

/-- The block once the oracle has answered `r`: the return slot written, and the trap about to resume after the call. -/
def callAnswered (r : Word) (s : State) : State :=
  { s with
    snap := s.snap.set s.params.retReg r, resumePc := s.epc + 4#32, engine := .returning
    trace := .syscall s.snap r :: s.trace }

theorem engineSyscall_sampled (hs : Sampled s) (r : Word) : engineSyscall r s = callAnswered r s :=
  latch_of_irqIn_eq (s := s) hs rfl rfl

theorem step_syscallReturn (hf : s.faults = []) (hs : Sampled s) (he : s.engine = .syscall) {r : Word}
    {rest : List Stimulus} (hin : s.inputs = .syscallReturn r :: rest) :
    step s = .next { callAnswered r s with inputs := rest } := by
  rw [step_of_syscallReturn hf hin, oracleAnswer, he]
  exact congrArg _ (engineSyscall_sampled (s := { s with inputs := rest }) hs r)

/-- Without an answer from outside, the call is answered with a free value (log 13). -/
theorem Alone.step_syscall (h : Alone s) (he : s.engine = .syscall) :
    ∃ r, Machine.step s = .next { callAnswered r s with draws := s.draws + 1 } := by
  rw [h.step, internalStep_syscall he]
  exact ⟨_, congrArg _ (engineSyscall_sampled (s := { s with draws := s.draws + 1 }) h.sampled _)⟩

/-- The oracle's answer waits for the decoder. -/
theorem step_decode_beforeAnswer (hf : s.faults = []) (hs : Sampled s) (he : s.engine = .decode) {r : Word}
    {rest : List Stimulus} (hin : s.inputs = .syscallReturn r :: rest) :
    step s = .next { s with engine := decodeCause s.cause } := by
  have pending : s.internalPending = true := by simp [State.internalPending, he]
  rw [step_of_syscallReturn hf hin, oracleAnswer, he]
  exact (if_pos pending).trans ((internalStep_decode he).trans (congrArg _ (engineDecode_sampled hs)))

theorem step_decode_ecallM (hf : s.faults = []) (hs : Sampled s) (he : s.engine = .decode) (hc : s.cause = ecallMCause)
    {r : Word} {rest : List Stimulus} (hin : s.inputs = .syscallReturn r :: rest) :
    step s = .next { s with engine := .syscall } := by
  have called : decodeCause s.cause = .syscall := by rw [hc, decodeCause_ecallM]
  rw [step_decode_beforeAnswer hf hs he hin, called]

/-- The block once the trap of an answered call has returned. -/
def callReturned (r : Word) (s : State) : State :=
  { callAnswered r s with
    engine := .idle, inputs := []
    trace := .trapReturn (callAnswered r s).resumePc (callAnswered r s).snap :: (callAnswered r s).trace }

/-- The decoder's step to the system call, its answer from the queue, and the return (R221, R225, R227). -/
theorem run_ecall (hf : s.faults = []) (hs : Sampled s) (he : s.engine = .decode) (hc : s.cause = ecallMCause)
    {r : Word} (hin : s.inputs = [.syscallReturn r]) : Host.Core.run Sys2Proof.core 3 s = .next (callReturned r s) := by
  have answered := step_syscallReturn (s := { s with engine := .syscall }) hf hs rfl hin
  have returning : Alone { callAnswered r { s with engine := .syscall } with inputs := [] } := ⟨hf, rfl, hs⟩
  rw [run_next (step_decode_ecallM hf hs he hc hin), run_next answered, run_next (returning.step_returning rfl)]
  rfl

end Machine

open Machine

/-- Settles O59: only the return puts out a resume pc, which the invariant ties to the cause. -/
theorem resumePcAdvancesOnlyOnSyscall : Obligations.ResumePcAdvancesOnlyOnSyscall := by
  intro s t pc regs inv h ht
  obtain ⟨he, rfl⟩ := step_of_trapReturn h ht
  exact inv.resume he

/-- Settles O60: a step keeps the descriptor, presents a trap, or answers a system call; and outside `Idle` the host issues
nothing. -/
theorem trapServiceFrame : Obligations.TrapServiceFrame := by
  intro s t h
  refine ⟨fun changed => ?_, fun changed => ?_, step_hostOp h⟩
  · obtain kept | presents | answers := step_descriptor h
    · exact absurd changed (by simp [kept.cause, kept.epc])
    · exact presents
    · exact absurd changed (by simp [answers.cause, answers.epc])
  · obtain kept | presents | answers := step_descriptor h
    · exact absurd kept.snap changed
    · exact .inl presents
    · exact .inr ⟨answers.called, answers.answered, answers.snap⟩

/-- Settles O54: each class is a presentation, which the engine's state decides. -/
theorem trapPresentationSavesDescriptor : Obligations.TrapPresentationSavesDescriptor := by
  intro s epc regs code hf
  refine ⟨fun he hs => ?_, fun i hi => ?_⟩
  · have presents (cause : Word) := presentTrap_sampled cause epc regs hf he hs
    exact ⟨presents extIrqCause, presents ecallMCause, presents (irqCause code), presents (excCause code), rfl⟩
  · obtain ⟨cause, e⟩ := exec_of_mem_trapClasses hi s
    rw [e]
    exact ⟨presentTrap_nested cause epc regs hf, fun _ => presentTrap_halted cause epc regs hf⟩

/-- Settles O55: the decoder's step goes where the cause word sends it. -/
theorem decoderClassifiesCause : Obligations.DecoderClassifiesCause := by
  intro s hf hin he hs
  have alone : Alone s := ⟨hf, hin, hs⟩
  refine ⟨alone.step_decode_extIrq he, fun h31 hc => ?_, fun hc => ?_, fun h31 hc => ?_⟩
  · rw [alone.step_decode he, decodeCause_unknownInterrupt h31 hc]
  · rw [alone.step_decode he, show s.cause = ecallMCause from hc, decodeCause_ecallM]
  · rw [alone.step_decode he, decodeCause_unknownException h31 hc]

/-- Settles O56: an answer from the queue, or a free one, goes into the return slot. -/
theorem syscallWritesReturnSlot : Obligations.SyscallWritesReturnSlot := by
  intro s hf he hs
  exact ⟨fun _ _ => step_syscallReturn hf hs he, fun hin => Alone.step_syscall ⟨hf, hin, hs⟩ he⟩

/-- Settles O57: the return is the engine's step in `Returning`. -/
theorem trapReturnPutsOutResumePc : Obligations.TrapReturnPutsOutResumePc :=
  fun _ hf hin he hs => ⟨Alone.step_returning ⟨hf, hin, hs⟩ he, rfl⟩

/-- Settles O58: the presentation, then the decoder, the answered call and the return, one step each. -/
theorem syscallTrapRoundTrip : Obligations.SyscallTrapRoundTrip := by
  intro s epc r regs hf he hin hs
  have presented := presentTrap_sampled (s := { s with inputs := [.syscallReturn r] }) ecallMCause epc regs hf he hs
  have served := run_ecall (s := trapPresented ecallMCause epc regs { s with inputs := [.syscallReturn r] }) hf hs
    rfl rfl rfl
  refine ⟨_, presented, served.trans ?_⟩
  rw [callReturned, ← he, ← hin]
  rfl

end Sys2Proof

/-! PROOFS. The statements of 60_exceptions.md: what is refused once a fault is recorded, and what steps are left in
`Halted`. -/

namespace Sys2Proof

namespace Machine

variable {s t : State} {r : HaltReason}

/-- Every operation but the environment's lines and ticks is guarded by the halt (R242). -/
theorem exec_halted {i : Instr} (hf : s.faults = []) (he : s.engine = .halted r) (hline : ∀ n b, i ≠ .evLine n b)
    (htick : i ≠ .evTick) : exec i s = .refused .halted := by
  cases i with
  | evLine n b => exact absurd rfl (hline n b)
  | evTick => exact absurd rfl htick
  | _ => exact unhalted_halted hf he

/-- The trap engine has no step in `Halted` (R36). -/
theorem EngineMove.not_halted (m : EngineMove s t) : s.engine ≠ .halted r := by
  cases m with
  | decode h | picRead h | handlerDone h | ack h | syscall h | trapDone h => simp [h]

/-- No step leaves `Halted` (R242). -/
theorem step_of_halted (h : step s = .next t) (he : s.engine = .halted r) : t.engine = .halted r := by
  obtain ⟨-, ins, rfl | m | m⟩ := step_next h
  · exact he
  · exact (m.engine (by simp [he])).trans he
  · exact absurd he m.not_halted

end Machine

open Machine

/-- Settles O10: a step and every operation ask for an empty record of faults first. -/
theorem faultedRunHasNoStep : Obligations.FaultedRunHasNoStep :=
  fun _ hf => ⟨step_faulted hf, fun i => exec_faulted i hf⟩

/-- Settles O11: a line and a tick leave the engine as it is, and no other operation or step of the engine is admitted. -/
theorem haltedBlockOnlySeesEnvironment : Obligations.HaltedBlockOnlySeesEnvironment := by
  intro s r hf he
  refine ⟨fun i => exec_halted hf he, ?_, fun n b h1 h31 => ?_, fun t h => step_of_halted h he⟩
  · exact ⟨_, execEvTick_unfaulted hf, (timerTick_engine s).trans he⟩
  · exact ⟨_, execEvLine_in b hf h1 h31, he⟩

end Sys2Proof

/-! PROOFS. The statements of 70_reset_and_hazards.md: the reset state and the invariant in it, and that a step without
stimuli always answers a next state. -/

namespace Sys2Proof

namespace Machine

variable {s : State}

/-! ### Reset (R270, R271) -/

/-- Whichever pair of bases is drawn, it is one that R63 admits. -/
theorem bases_legal : Config.basesLegal Config.bases.1 Config.bases.2 = true := by
  unfold Config.bases
  split
  · assumption
  · decide

theorem reset_legal : State.reset.params.legal = true := by
  change (Config.basesLegal Config.bases.1 Config.bases.2 && _ && _) = true
  rw [bases_legal]
  decide

theorem reset_prio (n : Fin 32) : State.reset.prio[n] = 0#5 :=
  Vector.getElem_replicate n.isLt

theorem reset_slots (n : Fin 32) : State.reset.slots[n] = .uninit :=
  Vector.getElem_replicate n.isLt

/-- No line is pending, so the arbiter selects line 0 (R125). -/
theorem reset_selLine : State.reset.selLine = 0 :=
  selLine_no_candidate rfl

theorem reset_statusWord : State.reset.statusWord = 0x00000000#32 := by
  unfold State.statusWord
  rw [reset_selLine]
  rfl

/-! ### The driver operation in progress finishes (R74, R97) -/

/-- A driver operation in progress is a read-modify-write: the invariant gives it the `pic.init` it may need (R141). -/
theorem exec_of_started {g : InFlight} (hl : Live s) (hg : Started s g) :
    ∃ r f, exec g.op s = readModifyWrite g.op r f s := by
  obtain ⟨op, c⟩ := g
  obtain ⟨two, init⟩ := hg
  cases op with
  | picMasterEnable => exact ⟨_, _, setter_picMasterEnable.2 s hl (init rfl)⟩
  | picMasterDisable => exact ⟨_, _, setter_picMasterDisable.2 s hl (init rfl)⟩
  | picEnableInterrupt line =>
    exact ⟨_, _, (setter_picEnableInterrupt (of_decide_eq_true two)).2 s hl (init rfl)⟩
  | picDisableInterrupt line =>
    exact ⟨_, _, (setter_picDisableInterrupt (of_decide_eq_true two)).2 s hl (init rfl)⟩
  | tmrSetPrescaler | tmrEnableAutoreload | tmrDisableAutoreload | tmrEnablePrescaler | tmrDisablePrescaler
  | tmrEnableInterrupts | tmrDisableInterrupts | tmrStart | tmrStop => exact ⟨_, _, rfl⟩
  | _ => cases two

/-- The agent that may issue finishes its driver operation in progress, or waits where it has none. -/
theorem finishOp_answers {a : Agent} (hf : s.faults = []) (ha : s.issuer = some a)
    (hs : ∀ g, s.inFlight a = some g → Started s g) : ∃ t, finishOp (s.inFlight a) s = .next t := by
  cases hg : s.inFlight a with
  | none => exact ⟨s, rfl⟩
  | some g =>
    obtain ⟨r, f, modify⟩ := exec_of_started (live_of_issuer hf ha) (hs g hg)
    exact ⟨_, modify.trans (readModifyWrite_inProgress hf ha hg)⟩

/-- Under the invariant the block's own step answers a next state, whatever the engine's state. -/
theorem Inv.internalStep_answers (hi : Inv s) (hf : s.faults = []) : ∃ t, internalStep s = .next t := by
  cases he : s.engine with
  | idle =>
    rw [internalStep_idle he]
    exact finishOp_answers (a := .host) hf (by simp [State.issuer, he]) hi.hostOp
  | invoking o line c =>
    cases c with
    | defaultHandler => exact ⟨_, internalStep_default he⟩
    | registered id =>
      rw [internalStep_registered he]
      exact finishOp_answers (a := .handler) hf (by simp [State.issuer, he]) fun g hg => (hi.handlerOp g hg).1
  | decode => exact ⟨_, internalStep_decode he⟩
  | picRead o => exact ⟨_, internalStep_picRead he⟩
  | acking o line => exact ⟨_, internalStep_acking he⟩
  | syscall => exact ⟨_, internalStep_syscall he⟩
  | returning => exact ⟨_, internalStep_returning he⟩
  | halted r => exact ⟨_, internalStep_halted he⟩

end Machine

open Machine

/-- Settles O15: without stimuli a step is the block's own, which the invariant lets every state take. -/
theorem blockIsNeverStuck : Obligations.BlockIsNeverStuck := by
  intro s hi hf hin
  rw [step_of_nil hf hin]
  exact hi.internalStep_answers hf

/-- Settles O12: the stored items are the fields of `State.reset`, and no line is pending, so the derived ones are 0. -/
theorem resetValues : Obligations.ResetValues :=
  ⟨rfl, reset_selLine, reset_statusWord, rfl, rfl, reset_prio, rfl, rfl, rfl, rfl, reset_slots, rfl, rfl, rfl, rfl, rfl, rfl,
    rfl, rfl, rfl, rfl, rfl, rfl⟩

/-- Settles O13: every drawn pair of bases is legal, and in `Idle` with nothing in progress the other clauses hold. -/
theorem resetMeetsInvariant : Obligations.ResetMeetsInvariant where
  sampled := rfl
  legal := reset_legal
  psc := prescale_pos reset_legal
  table := fun n => iff_of_true (reset_slots n) rfl
  hostOp := nofun
  handlerOp := nofun
  hostDispatch := nofun
  oneFault := Nat.zero_le 1
  irqCause := nofun
  syscallCause := nofun
  resume := nofun

end Sys2Proof
